-- ==== Sys2Proof/Word.lean ====
section
/-! DEFINITION. Bytes, blocks, and tables of a fixed length: the plainest data of the part. -/

namespace Sys2Proof

/-- Eight bits: one byte of a block or of a frame. -/
abbrev Byte := BitVec 8

/-- The number of bits in a block of 4096 bytes (spec/00, Table 1-2 "block"). -/
def blockBits : Nat := 32768

/-- A block of 4096 bytes. Byte i is bits 8·i to 8·i+7; only the bytes' places matter, since no rule
reads a block as a number (log 10). -/
abbrev Block := BitVec blockBits

/-- Byte i of a block. -/
def Block.byte (b : Block) (i : Nat) : Byte := b.extractLsb' (8 * i) 8

/-- A table of exactly n entries. -/
structure Vec (α : Type) (n : Nat) where
  toList : List α
  length_eq : toList.length = n
deriving DecidableEq, Repr

namespace Vec
variable {α β : Type} {n : Nat}

/-- n copies of one entry. -/
def replicate (n : Nat) (x : α) : Vec α n := ⟨List.replicate n x, List.length_replicate⟩

/-- The entry of index i. -/
def get (v : Vec α n) (i : Fin n) : α := v.toList[i.val]'(by rw [v.length_eq]; exact i.isLt)

/-- The table with entry i replaced. -/
def set (v : Vec α n) (i : Fin n) (x : α) : Vec α n :=
  ⟨v.toList.set i.val x, by rw [List.length_set]; exact v.length_eq⟩

/-- The table with a function applied to every entry. -/
def map (f : α → β) (v : Vec α n) : Vec β n :=
  ⟨v.toList.map f, by rw [List.length_map]; exact v.length_eq⟩

end Vec

end Sys2Proof
end

