-- ==== Sys2Proof/Config.lean ====
section
/-! DEFINITION. The fixed capacities and defaults of the part (spec/00, Table 1-4) and the free values:
what the spec leaves open, as constants without a body (log 3, log 7, log 8). -/

namespace Sys2Proof.Config

/-- Entries of the request table (R93). -/
def requestEntries : Nat := 32
/-- Entries of the lock table (R78). -/
def lockEntries : Nat := 48
/-- Jobs of the window (R121). -/
def windowJobs : Nat := 8
/-- Reissues of one original READ (R53). -/
def maxReissues : Nat := 8
/-- The most blocks one extent request names (R94). -/
def maxExtent : Nat := 256
/-- The timeout of a drive command after a cold start, in ms (R60). -/
def defaultTimeout : Nat := 8000
/-- The smallest and the largest timeout setting, in ms (R58). -/
def minTimeout : Nat := 500
/-- The largest timeout setting, in ms (R58). -/
def maxTimeout : Nat := 60000
/-- The probe allowance, in ms (R43). -/
def probeAllowance : Nat := 30000
/-- The rebuild share after a cold start (R60). -/
def defaultShare : Nat := 2
/-- The default and largest limit of the Lost Extent List (R146, R157). -/
def maxLostLimit : Nat := 256
/-- The smallest limit of the Lost Extent List (R146). -/
def minLostLimit : Nat := 16
/-- The most blocks one entry of the Lost Extent List names (R146). -/
def maxLostCount : Nat := 65535
/-- The checkpoint interval after a cold start (R172). -/
def defaultInterval : Nat := 1024
/-- The largest checkpoint interval (R171). -/
def maxInterval : Nat := 65535
/-- The limit of erase cycles (R167). -/
def eraseLimit : Nat := 20000
/-- The highest value of a threshold counter (R173). -/
def maxCounter : Nat := 4095
/-- The largest body of a frame, in bytes (R186). -/
def maxBody : Nat := 4101
/-- The revision that IDENTIFY reports (R193). -/
def revision : Nat := 3
/-- How many units of work one event may set off inside the part before the rest is left to the next
command: a bound of the model, chosen far above any cascade of a real state (log 4). -/
def cascadeFuel : Nat := 1048576

/-- FREE VALUE (log 3): of an auto-fail demand and a write failure that one error raises, whether the
demand reaches the Array Table first. R56: "Either one may reach the Array Table first". -/
opaque demandFirst : Nat → Bool

/-- FREE VALUE (log 7): what an auto-fail enable byte other than 0 and 1 sets. R58 accepts it and does
not say. -/
opaque enableOfByte : Nat → Bool

/-- FREE VALUE (log 8): the contents of a block that a completion delivers good without carrying it. -/
opaque freeBlock : Nat → Block

end Sys2Proof.Config
end

