-- ==== Sys2Proof/Syntax.lean ====
section
/-! DEFINITION. The commands the part takes: one constructor of Instr per row of spec/opcode_table.json,
with the operands the row's rule gives it. Numbers are plain Nat; Sys2Proof/WellFormed.lean says which
values their fields can carry. -/

namespace Sys2Proof

/-- One position entry of DEFINE-ARRAY (R25): the place of the state named (0 IN-SERVICE, 1 FAILED,
2 REBUILDING) and a channel. -/
structure PositionEntry where
  state : Nat
  channel : Nat
deriving DecidableEq, Repr

/-- One extent of LOAD-LOST (R153). -/
structure LostExtent where
  position : Nat
  first : Nat
  count : Nat
deriving DecidableEq, Repr

/-- The three results of a drive completion (R48). -/
inductive DriveResult where
  | good | medium | device
deriving DecidableEq, Repr

/-- What a completion carries beside its tag (R48): its result; the block count of a CAPACITY that ends
GOOD or the first bad block of a MEDIUM; the blocks a READ delivers, from its first block on. -/
structure Completion where
  result : DriveResult
  number : Nat
  blocks : List Block
deriving DecidableEq, Repr

/-- The two cells of the nonvolatile array as a failed or cut-short erase step leaves them (R166, R172). -/
structure CellsLeft where
  retire : Byte
  opening : Byte
deriving DecidableEq, Repr

/-- What the loss of power leaves of an operation of the Checkpoint Store that it cuts short (R172):
whether a byte of the slot had been programmed, how the cells read, and whether the erase count had
risen. -/
structure PowerLeft where
  anyByte : Bool
  cells : CellsLeft
  countRose : Bool
deriving DecidableEq, Repr

/-- Why a received frame is discarded (R187). -/
inductive DiscardReason where
  /-- Check 1: too short, or the CRC does not match. -/
  | frameCheck
  /-- Check 2: the body length is over 4101 or not that of the body; the kind byte as received. -/
  | length (kind : Byte)
  /-- Check 3: a kind that the part does not take; the frame's tag. -/
  | unknownKind (tag : Nat)
  /-- Check 4: a DATA body of the wrong length. -/
  | dataBody
deriving DecidableEq, Repr

/-- The commands of the part. A request's first operand is its tag. -/
inductive Instr where
  /-- COLD_START (R60): the level of each presence line, and what power left in the store. -/
  | coldStart (presence : BitVec 12) (left : PowerLeft)
  /-- CHECKPOINT_SCAN_END (R160). -/
  | checkpointScanEnd
  /-- FRAME_DISCARDED (R187). -/
  | frameDiscarded (reason : DiscardReason)
  /-- UNKNOWN_REQUEST (R188): a request with tag 0, an unknown code, or else a wrong body length. -/
  | unknownRequest (tag code : Nat)
  /-- DATA (R102): none is block state LOST. -/
  | data (tag index : Nat) (block : Option Block)
  /-- FRAME_TRANSMITTED (R192). -/
  | frameTransmitted
  /-- IDENTIFY (R193). -/
  | identify (tag : Nat)
  /-- DEFINE_ARRAY (R25). -/
  | defineArray (tag w k b0 s : Nat) (entries : List PositionEntry)
  /-- FAIL_MEMBER (R28). -/
  | failMember (tag position : Nat)
  /-- ASSIGN_SPARE (R29). -/
  | assignSpare (tag position channel : Nat)
  /-- RETURN_MEMBER (R30). -/
  | returnMember (tag position channel : Nat)
  /-- GUARD (R190): the code named and a position. -/
  | guard (tag code position : Nat)
  /-- START_REBUILD (R130). -/
  | startRebuild (tag : Nat) (positions : List Nat)
  /-- ADD_TARGET (R131). -/
  | addTarget (tag position : Nat)
  /-- PAUSE_REBUILD (R132). -/
  | pauseRebuild (tag : Nat)
  /-- CONTINUE_REBUILD (R133). -/
  | continueRebuild (tag : Nat)
  /-- ABORT_REBUILD (R134). -/
  | abortRebuild (tag : Nat)
  /-- RESUME_REBUILD (R135). -/
  | resumeRebuild (tag : Nat)
  /-- READ_EXTENT (R94): first array block and count. -/
  | readExtent (tag first count : Nat)
  /-- WRITE_EXTENT (R94). -/
  | writeExtent (tag first count : Nat)
  /-- CANCEL (R112): the tag of the request to cancel. -/
  | cancel (tag target : Nat)
  /-- SET_SHARE (R51). -/
  | setShare (tag value : Nat)
  /-- SET_CHANNEL (R58). -/
  | setChannel (tag channel timeout autoFail : Nat)
  /-- RESET_CHANNEL (R47). -/
  | resetChannel (tag channel : Nat)
  /-- CACHE_MODE (R75): force-miss, force-replacement and inject of ways 0 and 1. -/
  | cacheMode (tag miss0 miss1 replace0 replace1 inject0 inject1 : Nat)
  /-- LIST_LOST (R152). -/
  | listLost (tag start : Nat)
  /-- LOAD_LOST (R153). -/
  | loadLost (tag : Nat) (extents : List LostExtent)
  /-- DROP_LOST (R154). -/
  | dropLost (tag position first count : Nat)
  /-- SET_LOST_LIMIT (R155). -/
  | setLostLimit (tag value : Nat)
  /-- READ_CHECKPOINT (R169). -/
  | readCheckpoint (tag : Nat)
  /-- ERASE_CHECKPOINTS (R170). -/
  | eraseCheckpoints (tag : Nat)
  /-- SET_INTERVAL (R171). -/
  | setInterval (tag value : Nat)
  /-- QUERY_ARRAY (R39). -/
  | queryArray (tag : Nat)
  /-- QUERY_PASS (R136). -/
  | queryPass (tag : Nat)
  /-- QUERY_CHANNEL (R59). -/
  | queryChannel (tag channel : Nat)
  /-- QUERY_BANK (R179). -/
  | queryBank (tag bank : Nat)
  /-- QUERY_STORE (R168). -/
  | queryStore (tag : Nat)
  /-- QUERY_ATTENTION (R183). -/
  | queryAttention (tag : Nat)
  /-- CLEAR_BANK (R178). -/
  | clearBank (tag bank overflowSeen : Nat)
  /-- SET_THRESHOLD (R177). -/
  | setThreshold (tag bank count enable : Nat)
  /-- CLEAR_ATTENTION (R182): bit n set names class n. -/
  | clearAttention (tag : Nat) (seen : Byte)
  /-- RESTART (R194). -/
  | restart (tag : Nat)
  /-- INSERTION (R43). -/
  | insertion (channel : Nat)
  /-- REMOVAL (R45). -/
  | removal (channel : Nat)
  /-- CAPACITY_COMPLETION (R44). -/
  | capacityCompletion (channel driveTag : Nat) (completion : Completion)
  /-- PROBE_ALLOWANCE_EXPIRY (R44). -/
  | probeAllowanceExpiry (channel : Nat)
  /-- READ_COMPLETION (R53). -/
  | readCompletion (channel driveTag : Nat) (completion : Completion)
  /-- WRITE_COMPLETION (R56). -/
  | writeCompletion (channel driveTag : Nat) (completion : Completion)
  /-- UNMATCHED_COMPLETION (R52). -/
  | unmatchedCompletion (channel driveTag : Nat) (completion : Completion)
  /-- COMPLETION_DISCARDED (R46). -/
  | completionDiscarded (channel driveTag : Nat) (completion : Completion)
  /-- COMMAND_TIMEOUT (R55): the timer of the command that carries the drive-link tag. -/
  | commandTimeout (channel driveTag : Nat)
  /-- DATA_WAIT_EXPIRY (R103): the tag of the write request. -/
  | dataWaitExpiry (tag : Nat)
  /-- SLOT_PROGRAM_END (R163): the slot whose program ended, GOOD or in error. -/
  | slotProgramEnd (slot : Nat) (ok : Bool)
  /-- SLOT_PROGRAM_TIMEOUT (R164): the slot whose program has run for 10 ms. -/
  | slotProgramTimeout (slot : Nat)
  /-- RETIRE_CELL_PROGRAMMED (R165): GOOD or in error; on an error, how the cells read. -/
  | retireCellProgrammed (ok : Bool) (left : CellsLeft)
  /-- ERASE_END (R165). -/
  | eraseEnd (ok : Bool) (left : CellsLeft)
  /-- OPEN_CELL_PROGRAMMED (R165). -/
  | openCellProgrammed (ok : Bool) (left : CellsLeft)
  /-- ERASE_STEP_TIMEOUT (R166). -/
  | eraseStepTimeout (left : CellsLeft)
  /-- RECEIVED_FRAME_NOT_TAKEN (R194). -/
  | receivedFrameNotTaken
deriving DecidableEq, Repr

end Sys2Proof
end

