-- ==== Sys2Proof/WellFormed.lean ====
section
/-! DEFINITION. Which commands are well formed: every operand within the range its field can carry
(R186), every channel, slot and tag that an event names one that exists. -/

namespace Sys2Proof

/-- A field of one byte (R186). -/
def inByte (n : Nat) : Bool := decide (n < 256)
/-- A field of two bytes (R186). -/
def inTwo (n : Nat) : Bool := decide (n < 65536)
/-- A field of four bytes (R186). -/
def inFour (n : Nat) : Bool := decide (n < 4294967296)
/-- A field of six bytes (R186). -/
def inSix (n : Nat) : Bool := decide (n < 281474976710656)
/-- A request's tag: 1 to 65535 (R186, Table 11-1). -/
def tagOk (tag : Nat) : Bool := decide (0 < tag) && inTwo tag
/-- One of the twelve drive channels. -/
def channelOk (c : Nat) : Bool := decide (c < 12)
/-- A completion: a number of 48 bits, and no more blocks than a READ asks for (R48). -/
def Completion.wf (c : Completion) : Bool := inSix c.number && decide (c.blocks.length ≤ 256)
/-- A completion at one of the twelve channels with a drive-link tag (R42). -/
def completionOk (c t : Nat) (r : Completion) : Bool := channelOk c && inTwo t && r.wf
/-- A position entry of DEFINE-ARRAY: two fields of one byte. -/
def PositionEntry.wf (e : PositionEntry) : Bool := inByte e.state && inByte e.channel
/-- An extent of LOAD-LOST: fields of one, six and four bytes (R186). -/
def LostExtent.wf (e : LostExtent) : Bool := inByte e.position && inSix e.first && inFour e.count

/-- The well-formed commands. -/
def Instr.wf : Instr → Bool
  | .coldStart _ _ => true
  | .checkpointScanEnd => true
  | .frameDiscarded (.unknownKind tag) => inTwo tag
  | .frameDiscarded _ => true
  | .unknownRequest tag code => inTwo tag && inByte code
  | .data tag index _ => inTwo tag && inTwo index
  | .frameTransmitted => true
  | .identify tag => tagOk tag
  | .defineArray tag w k b0 s entries =>
    tagOk tag && inByte w && inByte k && inFour b0 && inFour s && entries.all PositionEntry.wf
      && decide (entries.length = w)
  | .failMember tag p => tagOk tag && inByte p
  | .assignSpare tag p c => tagOk tag && inByte p && inByte c
  | .returnMember tag p c => tagOk tag && inByte p && inByte c
  | .guard tag code p => tagOk tag && inByte code && inByte p
  | .startRebuild tag ps => tagOk tag && ps.all inByte && inByte ps.length
  | .addTarget tag p => tagOk tag && inByte p
  | .pauseRebuild tag => tagOk tag
  | .continueRebuild tag => tagOk tag
  | .abortRebuild tag => tagOk tag
  | .resumeRebuild tag => tagOk tag
  | .readExtent tag first count => tagOk tag && inSix first && inTwo count
  | .writeExtent tag first count => tagOk tag && inSix first && inTwo count
  | .cancel tag target => tagOk tag && inTwo target
  | .setShare tag v => tagOk tag && inByte v
  | .setChannel tag c ms a => tagOk tag && inByte c && inTwo ms && inByte a
  | .resetChannel tag c => tagOk tag && inByte c
  | .cacheMode tag a b c d e f =>
    tagOk tag && inByte a && inByte b && inByte c && inByte d && inByte e && inByte f
  | .listLost tag start => tagOk tag && inTwo start
  | .loadLost tag es => tagOk tag && es.all LostExtent.wf && inByte es.length
  | .dropLost tag p first count => tagOk tag && inByte p && inSix first && inSix count
  | .setLostLimit tag v => tagOk tag && inTwo v
  | .readCheckpoint tag => tagOk tag
  | .eraseCheckpoints tag => tagOk tag
  | .setInterval tag v => tagOk tag && inFour v
  | .queryArray tag => tagOk tag
  | .queryPass tag => tagOk tag
  | .queryChannel tag c => tagOk tag && inByte c
  | .queryBank tag b => tagOk tag && inByte b
  | .queryStore tag => tagOk tag
  | .queryAttention tag => tagOk tag
  | .clearBank tag b o => tagOk tag && inByte b && inByte o
  | .setThreshold tag b n e => tagOk tag && inByte b && inTwo n && inByte e
  | .clearAttention tag _ => tagOk tag
  | .restart tag => tagOk tag
  | .insertion c => channelOk c
  | .removal c => channelOk c
  | .capacityCompletion c t r => completionOk c t r
  | .probeAllowanceExpiry c => channelOk c
  | .readCompletion c t r => completionOk c t r
  | .writeCompletion c t r => completionOk c t r
  | .unmatchedCompletion c t r => completionOk c t r
  | .completionDiscarded c t r => completionOk c t r
  | .commandTimeout c t => channelOk c && inTwo t
  | .dataWaitExpiry tag => tagOk tag
  | .slotProgramEnd i _ => decide (i < 64)
  | .slotProgramTimeout i => decide (i < 64)
  | .retireCellProgrammed _ _ => true
  | .eraseEnd _ _ => true
  | .openCellProgrammed _ _ => true
  | .eraseStepTimeout _ => true
  | .receivedFrameNotTaken => true

end Sys2Proof
end

