-- ==== Sys2Proof/Decode.lean ====
section
/-! DEFINITION. The commands that words spell by the bits of spec/opcode_table.json. No row of the table
gives bits: the part takes frames of bytes and events, and Sys2Proof/Machine/Receive.lean reads a
frame's bytes into a command. -/

namespace Sys2Proof

/-- The command of a word of nbits bits: none, since no row of the table has a word. -/
def decodeTableWord (_nbits _w : Nat) : Option Instr := none

end Sys2Proof
end

