-- ==== Sys2Proof/Machine/State.lean ====
section
/-! DEFINITION. The state of the part, as plain data: every register, table, queue, buffer, flag and
nonvolatile cell the spec gives it, block by block (spec/00, Table 1-1), and State.reset. -/

namespace Sys2Proof.Machine

/-- A drive channel, 0 to 11. -/
abbrev Chan := Fin 12

/-! ## Array Table (spec/02) -/

/-- The state of a position (R21). -/
inductive PosState where
  | inService | failed | rebuilding
deriving DecidableEq, Repr

/-- The failure cause of a position (R21). -/
inductive FailCause where
  | host | removed | writeFailure | threshold | spareLost
deriving DecidableEq, Repr

/-- A position record (R21). -/
structure PosRec where
  state : PosState
  channel : Option Chan
  spare : Option Chan
  cause : Option FailCause
deriving DecidableEq, Repr

/-- The geometry (R1): width, strip size, data start, stripe count. -/
structure Geometry where
  w : Nat
  k : Nat
  b0 : Nat
  s : Nat
deriving DecidableEq, Repr

/-- An array definition (R20). -/
structure ArrayDef where
  geom : Geometry
  positions : List PosRec
deriving DecidableEq, Repr

/-- The Array Table: at most one definition (R20). -/
structure ArrayTable where
  definition : Option ArrayDef
deriving DecidableEq, Repr

/-- The array state (R22). -/
inductive ArrayState where
  | undefined | normal | degraded1 | degraded2 | failed
deriving DecidableEq, Repr

/-- The use of a channel (R23). -/
inductive ChannelUse where
  | member | assignedSpare | unused
deriving DecidableEq, Repr

/-! ## Work on rows (spec/01) -/

/-- The cause of an erasure (Table 1-8, in the table's order). -/
inductive ErasureCause where
  | unavailable | notRead | medium | device | timeout | positionFailed | listed
deriving DecidableEq, Repr

/-- What became of one block that a caller asked for: its contents, or an erasure and its cause (R54). -/
inductive BlockOutcome where
  | good (contents : Block)
  | erased (cause : ErasureCause)
deriving DecidableEq, Repr

/-- One block of a working set: its position, its row, and its outcome. -/
structure Cell where
  position : Nat
  row : Nat
  outcome : BlockOutcome
deriving DecidableEq, Repr

/-- The erasure set of one row: the erased positions with their causes (R10). -/
structure RowErasures where
  row : Nat
  erased : List (Nat × ErasureCause)
deriving DecidableEq, Repr

/-! ## Drive channels (spec/03) -/

/-- The state of a channel (Table 3-1). -/
inductive ChannelState where
  | empty | probing | ready | offline
deriving DecidableEq, Repr

/-- A way of the buffer store. -/
inductive Way where
  | way0 | way1
deriving DecidableEq, Repr

/-- A refetch note: the member block of a bad line and the line's way (R65). -/
structure RefetchNote where
  block : Nat
  way : Way
deriving DecidableEq, Repr

/-- The owner of a drive command: an extent segment, by its request's tag, or a rebuild job, by its
pass position (spec/03, section 3.1). -/
inductive Owner where
  | segment (tag : Nat)
  | job (k : Nat)
deriving DecidableEq, Repr

/-- The two commands of owners (R48). A READ carries the refetch notes of its blocks (R65); a WRITE its
blocks and, for each, whether it is handed for trimming when stored (R110, R126). -/
inductive DriveOp where
  | read (notes : List RefetchNote)
  | write (blocks : List Block) (trim : List Bool)
deriving DecidableEq, Repr

/-- A READ or WRITE of count member blocks from first on, at a position. -/
structure DriveCmd where
  position : Nat
  first : Nat
  count : Nat
  op : DriveOp
deriving DecidableEq, Repr

/-- A command that waits in a pending queue, with its owner (R49). -/
structure QueuedCmd where
  owner : Owner
  cmd : DriveCmd
deriving DecidableEq, Repr

/-- What a command slot holds. -/
inductive SlotWork where
  /-- The CAPACITY command of a probe (R43). -/
  | probe
  /-- An owned READ or WRITE (R50). For a READ: the first block of the READ or reissue outstanding, the
  outcomes of the blocks before it, the reissues made (R53), and the blocks of the orphan WRITEs the
  channel held when it was issued, as runs of first block and count (R69). -/
  | owned (owner : Owner) (cmd : DriveCmd) (next : Nat) (outcomes : List BlockOutcome) (reissues : Nat)
      (shadow : List (Nat × Nat))
  /-- An orphan of a restart (R61). -/
  | orphan (cmd : DriveCmd)
deriving DecidableEq, Repr

/-- An outstanding command: its drive-link tag, the allowance its timer started with in ms (R55, R43),
and the command. -/
structure Slot where
  tag : Nat
  allowance : Nat
  work : SlotWork
deriving DecidableEq, Repr

/-- A channel record (R42). -/
structure Channel where
  state : ChannelState
  presence : Bool
  capacity : Option Nat
  slots : Vec (Option Slot) 4
  foreground : List QueuedCmd
  rebuild : List QueuedCmd
  timeout : Nat
  tagCounter : Nat
deriving DecidableEq, Repr

/-- The drive channels and the array-wide rebuild share R (R51). -/
structure DriveChannels where
  channels : Vec Channel 12
  share : Nat
deriving DecidableEq, Repr

/-! ## Column Buffer Store (spec/04) -/

/-- A valid line (R62). Bit 8·i of dataParity is the parity bit of byte i; its other bits are 0 (log 10). -/
structure Line where
  position : Nat
  block : Nat
  tagParity : BitVec 2
  contents : Block
  dataParity : Block
deriving DecidableEq, Repr

/-- A set (R62): the line of each way, absent while it is invalid, and the way the replacement bit names. -/
structure BufferSet where
  line0 : Option Line
  line1 : Option Line
  replace : Way
deriving DecidableEq, Repr

/-- The mode flags of a way (R62). -/
structure WayMode where
  forceMiss : Bool
  forceReplace : Bool
  inject : Bool
deriving DecidableEq, Repr

/-- The Column Buffer Store (R62). -/
structure BufferStore where
  sets : Vec BufferSet 256
  mode0 : WayMode
  mode1 : WayMode
deriving DecidableEq, Repr

/-! ## Stripe Lock Table (spec/05) -/

/-- A requester of locks (R79). -/
inductive Requester where
  | extent (tag : Nat)
  | job (k : Nat)
deriving DecidableEq, Repr

/-- The mode of a lock (R78). -/
inductive LockMode where
  | shared | exclusive
deriving DecidableEq, Repr

/-- A waiter of an entry (R78). -/
structure Waiter where
  requester : Requester
  mode : LockMode
deriving DecidableEq, Repr

/-- A lock entry in use (R78). -/
structure LockEntry where
  stripe : Nat
  mode : LockMode
  holders : List Requester
  waiters : List Waiter
deriving DecidableEq, Repr

/-- A record of the table-full queue (R78). -/
structure WaitRecord where
  requester : Requester
  stripe : Nat
  mode : LockMode
deriving DecidableEq, Repr

/-- The Stripe Lock Table (R78): the entries in use and the table-full queue. -/
structure LockTable where
  entries : List LockEntry
  fullQueue : List WaitRecord
deriving DecidableEq, Repr

/-! ## Extent Service Unit (spec/06) -/

/-- The kind of an extent request (R93). -/
inductive ExtentKind where
  | read | write
deriving DecidableEq, Repr

/-- The state of an extent request (Table 6-1). -/
inductive ExtentState where
  | lockWait | dataWait | gather | compute | writeOut | send
deriving DecidableEq, Repr

/-- An ending that takes effect when the current segment has drained (R93). -/
inductive EndPending where
  | cancelled | arrayFailed
deriving DecidableEq, Repr

/-- The write method of a segment (R104). -/
inductive WriteMethod where
  | full | readModify | reconstruct
deriving DecidableEq, Repr

/-- The working set of the current segment (R93): blocks obtained, the rows that are reconstructing and
the round (R96, R97, R107), erasure sets, the grant as its first index and count, the data received by
index, whether the data wait timer runs, and the write method and write set as (position, row) pairs. -/
structure WorkingSet where
  cells : List Cell
  rebuilding : List Nat
  round : Nat
  erasures : List RowErasures
  grant : Option (Nat × Nat)
  received : List (Nat × Block)
  dataTimer : Bool
  method : Option WriteMethod
  writeSet : List (Nat × Nat)
deriving DecidableEq, Repr

/-- An entry of the request table (R93). -/
structure ExtentReq where
  tag : Nat
  kind : ExtentKind
  first : Nat
  count : Nat
  segment : Nat
  blocksDone : Nat
  lostCount : Nat
  firstLost : Option Nat
  state : ExtentState
  outstanding : Nat
  endPending : Option EndPending
  work : WorkingSet
deriving DecidableEq, Repr

/-- The Extent Service Unit: its request table, oldest first. -/
structure ExtentService where
  requests : List ExtentReq
deriving DecidableEq, Repr

/-! ## Rebuild Controller (spec/07) -/

/-- The state of the pass (R117). -/
inductive PassState where
  | idle | running | pausing | paused | stopping
deriving DecidableEq, Repr

/-- The last result of a pass (R117); the stop causes are the four last ones. -/
inductive PassResult where
  | none | completed | abortedByRequest | abortedListFull | abortedArrayFailed | abortedTargetsLost
deriving DecidableEq, Repr

/-- The state of a target (R118). -/
inductive TargetState where
  | active | done | lost
deriving DecidableEq, Repr

/-- A target entry (R118). -/
structure Target where
  position : Nat
  channel : Chan
  start : Nat
  state : TargetState
deriving DecidableEq, Repr

/-- The state of a job (R121). -/
inductive JobState where
  | locking | reading | computing | writing | complete | failed
deriving DecidableEq, Repr

/-- A job record (R121). cutShort: the job is ended by R139 or R140. -/
structure Job where
  k : Nat
  stripe : Nat
  targets : List Nat
  state : JobState
  cells : List Cell
  erasures : List RowErasures
  outstanding : Nat
  cutShort : Bool
deriving DecidableEq, Repr

/-- The pass record (R117). doneTargets: the targets that turned DONE at the latest advance that made
one DONE, for the end record of R128. -/
structure PassRecord where
  state : PassState
  number : Nat
  targets : List Target
  doneTargets : List Target
  f : Nat
  n : Nat
  e : Nat
  stopCause : Option PassResult
  lastResult : PassResult
  rowsReconstructed : Nat
  rowsUnrecoverable : Nat
  repairs : Nat
  window : List Job
deriving DecidableEq, Repr

/-! ## Lost Extent List (spec/08) -/

/-- The cause of an entry (R146). -/
inductive LostCause where
  | unrecoverableRow | loaded
deriving DecidableEq, Repr

/-- An entry of the Lost Extent List (R146). -/
structure LostEntry where
  position : Nat
  first : Nat
  count : Nat
  cause : LostCause
deriving DecidableEq, Repr

/-- The Lost Extent List and its limit Lm (R146). -/
structure LostList where
  entries : List LostEntry
  limit : Nat
deriving DecidableEq, Repr

/-! ## Checkpoint Store (spec/09) -/

/-- A checkpoint record (Table 9-1). -/
structure CheckpointRecord where
  number : Nat
  geom : Geometry
  targets : List Target
  f : Nat
  e : Nat
  result : PassResult
deriving DecidableEq, Repr

/-- The body of a slot: every byte FFH, some byte programmed but no whole record, or a whole record. -/
inductive SlotBody where
  | erased
  | partly
  | record (r : CheckpointRecord)
deriving DecidableEq, Repr

/-- A slot of the nonvolatile array (R158). -/
structure NvSlot where
  body : SlotBody
  marker : Byte
deriving DecidableEq, Repr

/-- The nonvolatile array (R158). -/
structure NvArray where
  slots : Vec NvSlot 64
  retireCell : Byte
  openCell : Byte
  eraseCount : Nat
deriving DecidableEq, Repr

/-- The state of the store (R159). -/
inductive StoreState where
  | scanning | ready | programming | erasing | faulted
deriving DecidableEq, Repr

/-- The classification of the store (R159). -/
inductive Classification where
  | valid | retired
deriving DecidableEq, Repr

/-- What the slot map holds of a slot (R158, R159). -/
inductive SlotStatus where
  | blank | written | torn
deriving DecidableEq, Repr

/-- The last-operation status (R159). -/
inductive StoreStatus where
  | normal | programError | eraseError | worn
deriving DecidableEq, Repr

/-- The step of an erase cycle under way (R165: steps 1, 2 and 3). -/
inductive EraseStep where
  | retireCell | area | openCell
deriving DecidableEq, Repr

/-- The operation under way: none, the program of a slot with its record, or an erase cycle with the tag
of the ERASE-CHECKPOINTS it answers, where one began it (R170). -/
inductive StoreOp where
  | none
  | program (slot : Fin 64) (r : CheckpointRecord)
  | erase (step : EraseStep) (answers : Option Nat)
deriving DecidableEq, Repr

/-- The Checkpoint Store (R158, R159). rescan: a restart was taken, and the scan follows the operation
under way (R172). -/
structure CheckpointStore where
  nv : NvArray
  state : StoreState
  classification : Classification
  wornFlag : Bool
  slotMap : Vec SlotStatus 64
  pendingRecord : Option CheckpointRecord
  errorRun : Nat
  status : StoreStatus
  interval : Nat
  op : StoreOp
  rescan : Bool
deriving DecidableEq, Repr

/-! ## Error Banks and Attention Unit (spec/10) -/

/-- The error codes (Table 10-2). -/
inductive ErrorCode where
  | mediumRead | mediumWrite | device | timeout | unmatchedCompletion | probeFail
  | dataParity | tagParity
  | frameCheck | frameLength | unknownKind | ungrantedData | guardBroken | unguarded
  | program | erase | worn
deriving DecidableEq, Repr

/-- The command kind of an error record (Table 10-1). -/
inductive ErrorKind where
  | capacity | read | write | lookup | slotProgram | eraseCycle
  | frame (kind : Byte)
  | request (code : Nat)
deriving DecidableEq, Repr

/-- The owner of an error record (Table 10-1). -/
inductive ErrorOwner where
  | request (tag : Nat)
  | passPosition (k : Nat)
  | passNumber (n : Nat)
deriving DecidableEq, Repr

/-- The fields an error brings to a bank (R174). Block-valid is whether block is present. -/
structure ErrorFields where
  code : ErrorCode
  uncorrected : Bool
  block : Option Nat
  count : Nat
  kind : Option ErrorKind
  owner : Option ErrorOwner
deriving DecidableEq, Repr

/-- A bank (R173). The record is present while valid is set. -/
structure Bank where
  record : Option ErrorFields
  overflow : Bool
  counter : Nat
  reached : Bool
  report : Bool
  autoFail : Bool
deriving DecidableEq, Repr

/-- The attention classes (Table 10-3). -/
inductive Attention where
  | arrayLost | memberFailed | passEnded | listNearFull | storeFault | threshold | channelChange | errorLogged
deriving DecidableEq, Repr

/-- The Error Banks and Attention Unit (R173, R180, R181). Bit n of attention is class n. -/
structure ErrorUnit where
  banks : Vec Bank 15
  attention : Byte
  noticeWaiting : Bool
deriving DecidableEq, Repr

/-! ## Array Link Interface (spec/11) -/

/-- The statuses of replies (R189), in the order of their numbers. -/
inductive Status where
  | ok | unknownRequest | badLength | badValue | tagInUse | queueFull | notDefined | arrayFailed | range
  | busy | wrongState | unguarded | mismatch | noResume | mediumLost | dataTimeout | cancelled | notFound
  | tooSmall | channelInUse | channelNotReady | listFull | storeFault
deriving DecidableEq, Repr

/-- The reply of QUERY-CHANNEL (R59). -/
structure ChannelReport where
  state : ChannelState
  presence : Bool
  use : ChannelUse
  position : Option Nat
  capacity : Option Nat
  foregroundSlots : Nat
  rebuildSlots : Nat
  probe : Bool
  foregroundQueue : Nat
  rebuildQueue : Nat
  timeout : Nat
  autoFail : Bool
  share : Nat
deriving DecidableEq, Repr

/-- The reply of QUERY-PASS (R136). -/
structure PassReport where
  state : PassState
  stopCause : Option PassResult
  number : Nat
  targets : List Target
  f : Nat
  n : Nat
  e : Nat
  lastResult : PassResult
  rowsReconstructed : Nat
  rowsUnrecoverable : Nat
  repairs : Nat
  jobs : List (Nat × JobState)
deriving DecidableEq, Repr

/-- The reply of QUERY-STORE (R168). -/
structure StoreReport where
  state : StoreState
  classification : Classification
  wornFlag : Bool
  eraseCount : Nat
  status : StoreStatus
  blank : Nat
  written : Nat
  torn : Nat
  latest : Option (Nat × Nat × PassResult)
  nextFree : Option Nat
  recordPending : Bool
  interval : Nat
deriving DecidableEq, Repr

/-- The contents of a reply's body, as the owning chapter names them (R189). -/
inductive ReplyBody where
  /-- No body: a refusal, or a reply whose chapter names no contents. -/
  | empty
  /-- IDENTIFY (R193): constants of the part. -/
  | identity
  /-- READ-EXTENT and WRITE-EXTENT that end (R95): blocks done, lost count, first lost block. -/
  | extent (blocksDone lostCount : Nat) (firstLost : Option Nat)
  /-- SET-SHARE (R51): R in force. -/
  | share (r : Nat)
  /-- SET-CHANNEL (R58): the timeout in force. -/
  | timeout (ms : Nat)
  /-- CACHE-MODE (R75): the flags in force and the valid lines of each way. -/
  | cache (mode0 mode1 : WayMode) (lines0 lines1 : Nat)
  /-- LIST-LOST (R152): count, limit and the entries returned. -/
  | lostEntries (count limit : Nat) (entries : List LostEntry)
  /-- LOAD-LOST (R153): extents taken and the count of the list. -/
  | loaded (taken count : Nat)
  /-- DROP-LOST (R154): blocks removed and the count of the list. -/
  | dropped (removed count : Nat)
  /-- SET-LOST-LIMIT (R155): the limit in force. -/
  | lostLimit (limit : Nat)
  /-- READ-CHECKPOINT (R169): the latest slot and its record, or no record. -/
  | checkpoint (latest : Option (Nat × CheckpointRecord))
  /-- ERASE-CHECKPOINTS that ends OK (R170): the new erase count. -/
  | eraseCount (n : Nat)
  /-- SET-INTERVAL (R171): the interval in force. -/
  | interval (i : Nat)
  /-- QUERY-ARRAY (R39): array state, lacking count and the definition, absent while UNDEFINED. -/
  | array (state : ArrayState) (lacking : Nat) (definition : Option ArrayDef)
  /-- QUERY-PASS (R136). -/
  | pass (r : PassReport)
  /-- QUERY-CHANNEL (R59). -/
  | channel (r : ChannelReport)
  /-- QUERY-BANK (R179): the bank, and whether it is a channel bank. -/
  | bank (b : Bank) (isChannel : Bool)
  /-- QUERY-STORE (R168). -/
  | store (r : StoreReport)
  /-- QUERY-ATTENTION (R183): the set, the highest latched class, whether a NOTICE waits. -/
  | attention (latched : Byte) (highest : Option Nat) (waiting : Bool)
  /-- CLEAR-BANK (R178): overflow after the clear. -/
  | overflow (value : Bool)
  /-- SET-THRESHOLD (R177): the counter as loaded. -/
  | counter (n : Nat)
  /-- CLEAR-ATTENTION (R182): the set after the clear. -/
  | attentionSet (latched : Byte)
deriving DecidableEq, Repr

/-- A frame the part sends (R186, Table 11-2). A DATA frame without a block is LOST. -/
inductive Frame where
  | reply (tag : Nat) (status : Status) (body : ReplyBody)
  | data (tag index : Nat) (block : Option Block)
  | grant (tag first count index : Nat)
  | notice (latched : Byte) (highest : Nat)
deriving DecidableEq, Repr

/-- A guard (R190): a request code and, for a request that names a position, that position. -/
structure Guard where
  code : Nat
  position : Option Nat
deriving DecidableEq, Repr

/-- How far a RESTART has come (R194): none taken, its OK reply queued with its tag, or in transmission. -/
inductive RestartPhase where
  | none
  | queued (tag : Nat)
  | sending
deriving DecidableEq, Repr

/-- The Array Link Interface (R190, R192, R194). -/
structure LinkState where
  taking : Bool
  guard : Option Guard
  queue : List Frame
  sending : Option Frame
  restart : RestartPhase
deriving DecidableEq, Repr

/-! ## Work inside one event -/

/-- A unit of the work that an event sets off inside the part (log 4). -/
inductive Task where
  /-- A frame handed once the work before it is done. -/
  | frame (f : Frame)
  /-- An owner hands a command to the channel of the position it addresses (R49). -/
  | hand (o : Owner) (c : DriveCmd)
  /-- A READ's outcome reaches its owner (R54), from the channel that performed it, if one did. -/
  | readDone (o : Owner) (c : DriveCmd) (performed : Option Chan) (outcomes : List BlockOutcome)
      (shadow : List (Nat × Nat))
  /-- A WRITE has ended for its owner (R56). -/
  | writeDone (o : Owner)
  /-- An auto-fail demand reaches the Array Table (R33). -/
  | demand (c : Chan)
  /-- A failure of the position that holds a channel reaches the Array Table (R31, R32). -/
  | failChannel (c : Chan) (cause : FailCause)
  /-- A free slot may have become fillable (R50). -/
  | arbiter (c : Chan)
  /-- The next step of a READ whose MEDIUM completion has been logged (R53). -/
  | reissue (c : Chan) (slot : Fin 4)
  /-- A grant reaches its requester (R83). -/
  | granted (r : Requester)
  /-- An extent request goes on once nothing of its phase is outstanding. -/
  | segment (tag : Nat)
  /-- What follows the release of a segment's lock (R95). -/
  | nextSegment (tag : Nat)
  /-- A job goes on once nothing of its phase is outstanding. -/
  | job (k : Nat)
  /-- The frontier may advance (R127). -/
  | frontier
  /-- Jobs may start (R122). -/
  | startJobs
  /-- A STOPPING pass may have drained (R142). -/
  | drained
deriving DecidableEq, Repr

/-! ## The whole state -/

/-- The state of the part. free, agenda and pending are the model's own (log 3, log 4, log 5). -/
structure State where
  ali : LinkState
  table : ArrayTable
  slt : LockTable
  esu : ExtentService
  rbc : PassRecord
  cbs : BufferStore
  dc : DriveChannels
  lel : LostList
  cps : CheckpointStore
  eba : ErrorUnit
  free : Nat
  agenda : List Task
  pending : List Instr
deriving DecidableEq, Repr

/-- Why the part would stop. The spec names no event that stops it: no meaning raises a fault (log 6). -/
inductive Fault where
  /-- Raised by nothing: it stands here because the interface asks for a type of faults. Safe. -/
  | halted
deriving DecidableEq, Repr

/-- Why a command would have no meaning. -/
inductive Refusal where
  /-- Raised only by an arm of exec whose command has no meaning yet; no arm does so now. Safe. -/
  | notModelled (mnemonic : String)
deriving DecidableEq, Repr

/-! ## Contents after a cold start -/

/-- The transmit and receive side after a cold start (R195). -/
def LinkState.cold : LinkState :=
  { taking := false, guard := none, queue := [], sending := none, restart := .none }

/-- A channel after a cold start with no drive inserted (R60). -/
def Channel.cold : Channel :=
  { state := .empty, presence := false, capacity := none, slots := Vec.replicate 4 none,
    foreground := [], rebuild := [], timeout := Config.defaultTimeout, tagCounter := 0 }

/-- The channels after a cold start with no drive inserted (R60). -/
def DriveChannels.cold : DriveChannels :=
  { channels := Vec.replicate 12 Channel.cold, share := Config.defaultShare }

/-- The buffer store after either start (R77). -/
def BufferStore.cold : BufferStore :=
  { sets := Vec.replicate 256 { line0 := none, line1 := none, replace := .way0 },
    mode0 := { forceMiss := false, forceReplace := false, inject := false },
    mode1 := { forceMiss := false, forceReplace := false, inject := false } }

/-- The pass record after a cold start (R144). -/
def PassRecord.cold : PassRecord :=
  { state := .idle, number := 0, targets := [], doneTargets := [], f := 0, n := 0, e := 0,
    stopCause := none, lastResult := .none, rowsReconstructed := 0, rowsUnrecoverable := 0,
    repairs := 0, window := [] }

/-- The Lost Extent List after either start (R157). -/
def LostList.cold : LostList := { entries := [], limit := Config.maxLostLimit }

/-- An erased slot: every byte FFH (R158). -/
def NvSlot.erased : NvSlot := { body := .erased, marker := 0xFF }

/-- The nonvolatile array as a part leaves manufacture (R158). -/
def NvArray.new : NvArray :=
  { slots := Vec.replicate 64 NvSlot.erased, retireCell := 0xFF, openCell := 0xA5, eraseCount := 0 }

/-- The store as a cold start finds it, before its scan has ended (R160, R172). The classification, the
worn flag and the slot map have no stated value before the scan (log 2). -/
def CheckpointStore.cold (nv : NvArray) : CheckpointStore :=
  { nv := nv, state := .scanning, classification := .valid, wornFlag := false,
    slotMap := Vec.replicate 64 .blank, pendingRecord := none, errorRun := 0,
    status := if nv.eraseCount = Config.eraseLimit then .worn else .normal,
    interval := Config.defaultInterval, op := .none, rescan := false }

/-- A bank after a cold start (R184). -/
def Bank.cold : Bank :=
  { record := none, overflow := false, counter := 0, reached := false, report := true, autoFail := false }

/-- The error unit after a cold start (R184). -/
def ErrorUnit.cold : ErrorUnit :=
  { banks := Vec.replicate 15 Bank.cold, attention := 0, noticeWaiting := false }

/-- The part right after the cold start that follows manufacture, with no drive inserted (log 1). -/
def State.reset : State :=
  { ali := LinkState.cold, table := { definition := none }, slt := { entries := [], fullQueue := [] },
    esu := { requests := [] }, rbc := PassRecord.cold, cbs := BufferStore.cold,
    dc := DriveChannels.cold, lel := LostList.cold, cps := CheckpointStore.cold NvArray.new,
    eba := ErrorUnit.cold, free := 0, agenda := [], pending := [] }

end Sys2Proof.Machine
end

