-- ==== Sys2Proof/Machine/Geometry.lean ====
section
/-! DEFINITION. Stripe geometry (spec/01, R1 to R7): where array blocks lie, which role a position has in a
stripe, and how an extent is cut into segments. -/

namespace Sys2Proof.Machine

/-- Data strips per stripe, D (R1). -/
def Geometry.d (g : Geometry) : Nat := g.w - 2
/-- The stripe capacity K·D (R1). -/
def Geometry.stripeBlocks (g : Geometry) : Nat := g.k * g.d
/-- The array capacity C = S·K·D (R1). -/
def Geometry.capacity (g : Geometry) : Nat := g.s * g.k * g.d
/-- The member blocks a drive must have, B0 + S·K (R4). -/
def Geometry.memberEnd (g : Geometry) : Nat := g.b0 + g.s * g.k

/-- The stripe of an array block (R2, step 1). -/
def Geometry.stripeOf (g : Geometry) (l : Nat) : Nat := l / g.stripeBlocks
/-- The data index of an array block (R2, step 3). -/
def Geometry.dataIndexOf (g : Geometry) (l : Nat) : Nat := l % g.stripeBlocks / g.k
/-- The row of an array block (R2, step 4). -/
def Geometry.rowOf (g : Geometry) (l : Nat) : Nat := l % g.stripeBlocks % g.k

/-- The position of P in a stripe (R3). -/
def Geometry.posP (g : Geometry) (s : Nat) : Nat := g.w - 1 - s % g.w
/-- The position of Q in a stripe (R3). -/
def Geometry.posQ (g : Geometry) (s : Nat) : Nat := (g.posP s + 1) % g.w
/-- The position of a data index in a stripe (R3). -/
def Geometry.posData (g : Geometry) (s d : Nat) : Nat := (g.posQ s + 1 + d) % g.w

/-- The role of a position in a stripe (R3). -/
inductive Role where
  | p | q
  | data (d : Nat)
deriving DecidableEq, Repr

/-- The role of position x in stripe s (R5, steps 3 to 6). -/
def Geometry.role (g : Geometry) (s x : Nat) : Role :=
  if x = g.posP s then .p
  else if x = g.posQ s then .q
  else .data ((x + 2 * g.w - g.posQ s - 1) % g.w)

/-- The member block of a row of a stripe (R4). -/
def Geometry.memberBlock (g : Geometry) (s r : Nat) : Nat := g.b0 + s * g.k + r
/-- The stripe of a member block (R5, step 1). -/
def Geometry.memberStripe (g : Geometry) (m : Nat) : Nat := (m - g.b0) / g.k
/-- The row of a member block (R5, step 2). -/
def Geometry.memberRow (g : Geometry) (m : Nat) : Nat := (m - g.b0) % g.k

/-- The array block of data index d, row r of stripe s (R5, step 6). -/
def Geometry.arrayBlock (g : Geometry) (s d r : Nat) : Nat := s * g.k * g.d + d * g.k + r

/-- Whether a member block lies in the member data range of a position (R4, R5). -/
def Geometry.inMember (g : Geometry) (m : Nat) : Bool := decide (g.b0 ≤ m) && decide (m < g.memberEnd)

/-- The array block held at member block m of position x, where it holds data; a member block outside the member
data range has no place in the array (R5). -/
def Geometry.memberToArray (g : Geometry) (x m : Nat) : Option Nat :=
  if g.inMember m then
    match g.role (g.memberStripe m) x with
    | .data d => some (g.arrayBlock (g.memberStripe m) d (g.memberRow m))
    | _ => none
  else none

/-- Whether an extent lies within the array (R6). -/
def Geometry.inRange (g : Geometry) (first count : Nat) : Bool := decide (first + count ≤ g.capacity)

/-- The ranges of R1 that a definition is held to (R25, check 4). -/
def Geometry.valid (g : Geometry) : Bool :=
  decide (4 ≤ g.w) && decide (g.w ≤ 11) && [8, 16, 32, 64].contains g.k
    && decide (g.b0 ≤ 1048575) && decide (1 ≤ g.s) && decide (g.s ≤ 2147483648)

/-! ## Segments (R7) -/

/-- The number of segments of an extent. -/
def Geometry.segments (g : Geometry) (first count : Nat) : Nat :=
  g.stripeOf (first + count - 1) - g.stripeOf first + 1

/-- The first array block of segment i of an extent. -/
def Geometry.segFirst (g : Geometry) (first i : Nat) : Nat :=
  if i = 0 then first else (g.stripeOf first + i) * g.stripeBlocks

/-- The number of blocks of segment i of an extent. -/
def Geometry.segCount (g : Geometry) (first count i : Nat) : Nat :=
  min (first + count) ((g.stripeOf first + i + 1) * g.stripeBlocks) - g.segFirst first i

/-- One block of a segment: its index within the request, and where it lies. -/
structure SegBlock where
  index : Nat
  array : Nat
  row : Nat
  position : Nat
deriving DecidableEq, Repr

/-- The stripe of an extent request's current segment. -/
def ExtentReq.stripe (r : ExtentReq) (g : Geometry) : Nat := g.stripeOf r.first + r.segment

/-- The blocks of an extent request's current segment, in ascending array block order. -/
def ExtentReq.blocks (r : ExtentReq) (g : Geometry) : List SegBlock :=
  let l0 := g.segFirst r.first r.segment
  (List.range (g.segCount r.first r.count r.segment)).map fun j =>
    { index := l0 + j - r.first, array := l0 + j, row := g.rowOf (l0 + j),
      position := g.posData (r.stripe g) (g.dataIndexOf (l0 + j)) }

/-- The rows that hold at least one block of the current segment, ascending (R7). -/
def ExtentReq.rows (r : ExtentReq) (g : Geometry) : List Nat :=
  let bs := r.blocks g
  (List.range g.k).filter fun row => bs.any fun b => b.row == row

/-- The positions of the current segment's blocks in one row. -/
def ExtentReq.positionsIn (r : ExtentReq) (g : Geometry) (row : Nat) : List Nat :=
  ((r.blocks g).filter fun b => b.row == row).map fun b => b.position

/-- Whether the current segment is a full-stripe segment (R7). -/
def ExtentReq.fullStripe (r : ExtentReq) (g : Geometry) : Bool :=
  g.segCount r.first r.count r.segment == g.stripeBlocks

/-! ## Array state (spec/02) -/

/-- The lacking count of a position table: its positions that are not IN-SERVICE (R22). -/
def lackingOf (ps : List PosRec) : Nat := (ps.filter fun p => p.state != .inService).length

/-- The array state of a lacking count (R22). -/
def ArrayState.ofLacking : Nat → ArrayState
  | 0 => .normal
  | 1 => .degraded1
  | 2 => .degraded2
  | _ => .failed

/-- The lacking count, 0 while no array is defined. -/
def ArrayTable.lacking (t : ArrayTable) : Nat :=
  match t.definition with
  | none => 0
  | some d => lackingOf d.positions

/-- The array state (R22). -/
def ArrayTable.state (t : ArrayTable) : ArrayState :=
  match t.definition with
  | none => .undefined
  | some d => ArrayState.ofLacking (lackingOf d.positions)

/-- The record of position x. -/
def ArrayTable.position (t : ArrayTable) (x : Nat) : Option PosRec :=
  match t.definition with
  | none => none
  | some d => d.positions[x]?

/-- The positions with their numbers. -/
def ArrayTable.numbered (t : ArrayTable) : List (Nat × PosRec) :=
  match t.definition with
  | none => []
  | some d => (List.range d.positions.length).zip d.positions

/-- The table with the record of position x replaced. -/
def ArrayTable.setPosition (t : ArrayTable) (x : Nat) (p : PosRec) : ArrayTable :=
  match t.definition with
  | none => t
  | some d => { definition := some { d with positions := d.positions.set x p } }

/-- The position whose contents a channel holds, if it is a member (R23). -/
def ArrayTable.memberOf (t : ArrayTable) (c : Chan) : Option Nat :=
  (t.numbered.find? fun e => e.2.channel == some c).map fun e => e.1

/-- The position a channel is the assigned spare of (R23). -/
def ArrayTable.spareOf (t : ArrayTable) (c : Chan) : Option Nat :=
  (t.numbered.find? fun e => e.2.spare == some c).map fun e => e.1

/-- The use of a channel (R23). -/
def ArrayTable.use (t : ArrayTable) (c : Chan) : ChannelUse :=
  if (t.memberOf c).isSome then .member
  else if (t.spareOf c).isSome then .assignedSpare
  else .unused

/-! ## Coverage and availability -/

/-- The pass position of stripe s in the range of a target (R119). -/
def passPositionOf (stripes start s : Nat) : Nat := start + (s + stripes - start % stripes) % stripes

/-- Whether stripe s is covered for a target (R120). -/
def PassRecord.covers (p : PassRecord) (stripes : Nat) (t : Target) (s : Nat) : Bool :=
  let k := passPositionOf stripes t.start s
  t.state == .active &&
    (decide (k < p.f) || p.window.any fun j => j.k == k && j.state == .complete)

/-- Whether stripe s is covered for the ACTIVE target of a position (R9, R120). -/
def State.covered (s : State) (x stripe : Nat) : Bool :=
  match s.table.definition with
  | none => false
  | some d => s.rbc.targets.any fun t => t.position == x && s.rbc.covers d.geom.s t stripe

/-- Whether a position is available for a stripe (R9). -/
def State.available (s : State) (x stripe : Nat) : Bool :=
  match s.table.position x with
  | none => false
  | some p =>
    match p.state with
    | .inService => true
    | .rebuilding => s.covered x stripe
    | .failed => false

/-- Whether member block m of position x is listed (R147). -/
def LostList.listed (l : LostList) (x m : Nat) : Bool :=
  l.entries.any fun e => e.position == x && decide (e.first ≤ m) && decide (m < e.first + e.count)

/-- The geometry in force, if an array is defined. -/
def State.geom (s : State) : Option Geometry := s.table.definition.map fun d => d.geom

end Sys2Proof.Machine
end

