-- ==== Sys2Proof/Machine/Transmit.lean ====
section
/-! DEFINITION. The transmit side of the Array Link Interface (spec/11, R192) and the waiting NOTICE
(spec/10, R181). -/

namespace Sys2Proof.Machine

/-- The number of an attention class (Table 10-3). -/
def Attention.number : Attention → Nat
  | .arrayLost => 0
  | .memberFailed => 1
  | .passEnded => 2
  | .listNearFull => 3
  | .storeFault => 4
  | .threshold => 5
  | .channelChange => 6
  | .errorLogged => 7

/-- The highest latched class: the latched class of lowest number (R180). -/
def highestClass (latched : Byte) : Option Nat := (List.range 8).find? fun n => latched.getLsbD n

/-- The frame queued longest begins its transmission (R192, step 3). -/
def State.sendOldest (s : State) : State :=
  match s.ali.queue with
  | [] => s
  | f :: rest => { s with ali := { s.ali with queue := rest, sending := some f } }

/-- The next frame to send is chosen, the lanes being idle (R192): a queued RESTART reply, then a waiting
NOTICE, whose body is fixed now or which is withdrawn while the set is empty (R181), then the oldest. -/
def State.chooseFrame (s : State) : State :=
  match s.ali.restart with
  | .queued tag =>
    { s with ali := { s.ali with sending := some (.reply tag .ok .empty), restart := .sending } }
  | _ =>
    if s.eba.noticeWaiting then
      match highestClass s.eba.attention with
      | some h =>
        { s with
          eba := { s.eba with noticeWaiting := false }
          ali := { s.ali with sending := some (.notice s.eba.attention h) } }
      | none => State.sendOldest { s with eba := { s.eba with noticeWaiting := false } }
    else s.sendOldest

/-- Chooses a frame if the lanes are idle (R192). -/
def State.ifIdleChoose (s : State) : State :=
  match s.ali.sending with
  | none => s.chooseFrame
  | some _ => s

/-- A block hands a frame to the transmit queue (R192). -/
def State.handFrame (f : Frame) (s : State) : State :=
  State.ifIdleChoose { s with ali := { s.ali with queue := s.ali.queue ++ [f] } }

/-- A reply is handed (R189). -/
def State.reply (tag : Nat) (status : Status) (body : ReplyBody) (s : State) : State :=
  s.handFrame (.reply tag status body)

/-- An OK reply is handed. -/
def State.replyOk (tag : Nat) (body : ReplyBody) (s : State) : State := s.reply tag .ok body

/-- A refusal: a reply with a status and no body (R189). -/
def State.refuse (tag : Nat) (status : Status) (s : State) : State := s.reply tag status .empty

/-- The bit of a class in the attention set. -/
def Attention.bit (c : Attention) : Byte := (1 : Byte) <<< c.number

/-- A latch reaches the EBA (R180): a clear class becomes latched, and a NOTICE is queued if none waits
(R181). -/
def State.latch (c : Attention) (s : State) : State :=
  if s.eba.attention.getLsbD c.number then s
  else if s.eba.noticeWaiting then
    { s with eba := { s.eba with attention := s.eba.attention ||| c.bit } }
  else
    State.ifIdleChoose
      { s with eba := { s.eba with attention := s.eba.attention ||| c.bit, noticeWaiting := true } }

/-- Work is added behind the work the event already owes (log 4). -/
def State.later (t : Task) (s : State) : State := { s with agenda := s.agenda ++ [t] }

/-- Several units of work are added in order. -/
def State.laterAll (ts : List Task) (s : State) : State := { s with agenda := s.agenda ++ ts }

end Sys2Proof.Machine
end

