-- ==== Sys2Proof/Machine/Flags.lean ====
section
/-! DEFINITION. The error banks (spec/10, R173 to R178): what an error does to its bank, and the values
that a bank's flags take. -/

namespace Sys2Proof.Machine

/-- The number of a bank. -/
abbrev BankNo := Fin 15

/-- The bank of a channel (R173). -/
def channelBank (c : Chan) : BankNo := ⟨c.val, Nat.lt_trans c.isLt (by decide)⟩
/-- The buffer bank (R173). -/
def bufferBank : BankNo := 12
/-- The link bank (R173). -/
def linkBank : BankNo := 13
/-- The store bank (R173). -/
def storeBank : BankNo := 14

/-- The channel of a channel bank. -/
def bankChannel (b : BankNo) : Option Chan := if h : b.val < 12 then some ⟨b.val, h⟩ else none

/-- The record and the overflow flag after an error (R175, step 1). -/
def Bank.capture (b : Bank) (e : ErrorFields) : Bank :=
  match b.record with
  | none => { b with record := some e }
  | some _ => { b with overflow := true }

/-- Whether the error to come brings the counter to 4095 (R175, step 2). -/
def Bank.reaches (b : Bank) : Bool := b.counter + 1 == Config.maxCounter

/-- The counter and the threshold-reached flag after an error (R175, R176). -/
def Bank.tally (b : Bank) : Bank :=
  if b.counter < Config.maxCounter then
    { b with counter := b.counter + 1, reached := b.reached || b.reaches }
  else b

/-- A bank after CLEAR-BANK (R178). -/
def Bank.cleared (b : Bank) (overflowSeen : Bool) : Bank :=
  { b with record := none, overflow := b.overflow && !overflowSeen }

/-- A bank after SET-THRESHOLD with the desired count already held to 4095 (R177). -/
def Bank.loaded (b : Bank) (n : Nat) (report : Bool) : Bank :=
  { b with counter := Config.maxCounter - n, reached := false, report := report }

/-- A bank replaced. -/
def State.setBank (s : State) (b : BankNo) (x : Bank) : State :=
  { s with eba := { s.eba with banks := s.eba.banks.set b x } }

/-- The threshold's part of taking an error (R176): THRESHOLD is latched, and a channel bank with its
auto-fail enable set hands one demand. -/
def State.thresholdReached (s : State) (b : BankNo) (autoFail : Bool) : State :=
  let s1 := s.latch .threshold
  match bankChannel b with
  | some c => if autoFail then s1.later (.demand c) else s1
  | none => s1

/-- An error reaches a bank and is taken whole (R175). -/
def State.takeError (b : BankNo) (e : ErrorFields) (s : State) : State :=
  let x := s.eba.banks.get b
  let s1 := s.setBank b (x.capture e).tally
  let s2 := if x.reaches then s1.thresholdReached b x.autoFail else s1
  if x.report then s2.latch .errorLogged else s2

/-- The owner that a drive command's error names (Table 3-3). -/
def Owner.errorOwner : Owner → ErrorOwner
  | .segment tag => .request tag
  | .job k => .passPosition k

/-- An error of the link (R187, R191): no blocks. -/
def linkError (code : ErrorCode) (uncorrected : Bool) (kind : Option ErrorKind) (owner : Option ErrorOwner) :
    ErrorFields :=
  { code := code, uncorrected := uncorrected, block := none, count := 0, kind := kind, owner := owner }

end Sys2Proof.Machine
end

