-- ==== Sys2Proof/Machine/Parity.lean ====
section
/-! DEFINITION. The Parity Arithmetic Unit (spec/01, R10 to R19): field arithmetic on bytes, the same
arithmetic on the 4096 bytes of a block at once, and the three row computations. -/

namespace Sys2Proof.Machine

/-! ## One byte -/

/-- The product of a byte by 2: shifted toward its high end, then combined with 11DH if it exceeds FFH
(R11). -/
def gfDouble (b : Byte) : Byte :=
  BitVec.ofNat 8 (if 255 < 2 * b.toNat then (2 * b.toNat) ^^^ 0x11D else 2 * b.toNat)

/-- The product of a byte by 8EH: combined with 11DH if its lowest bit is set, then shifted toward its low
end (R11). -/
def gfHalve (b : Byte) : Byte :=
  BitVec.ofNat 8 ((if b.toNat % 2 = 1 then b.toNat ^^^ 0x11D else b.toNat) / 2)

/-- The product of a byte by the k-th power of the generator: k doublings (R11). -/
def gfPow : Nat → Byte → Byte
  | 0, b => b
  | k + 1, b => gfDouble (gfPow k b)

/-- The general product: the ⊕ of the doublings of a selected by the set bits of b (R11). -/
def gfMul (a b : Byte) : Byte :=
  (List.range 8).foldl (fun acc i => if b.getLsbD i then acc ^^^ gfPow i a else acc) 0

/-- The coefficients g^d of data indices 0 to 8 (Table 1-9). -/
def coefficients : List Byte := [0x01, 0x02, 0x04, 0x08, 0x10, 0x20, 0x40, 0x80, 0x1D]

/-- Their inverses (Table 1-9). -/
def inverseCoefficients : List Byte := [0x01, 0x8E, 0x47, 0xAD, 0xD8, 0x6C, 0x36, 0x1B, 0x83]

/-- The pair factors (g^x ⊕ g^y)⁻¹ (R12): row x holds those of y = x + 1 to 8. -/
def pairFactors : List (List Byte) :=
  [[0xF4, 0xA7, 0x9D, 0x72, 0xED, 0x5F, 0x54, 0xA0],
   [0x7A, 0xDD, 0xC0, 0x39, 0xF8, 0xA1, 0x2A],
   [0x3D, 0xE0, 0x60, 0x92, 0x7C, 0xDE],
   [0x90, 0x70, 0x30, 0x49, 0x3E],
   [0x48, 0x38, 0x18, 0xAA],
   [0x24, 0x1C, 0x0C],
   [0x12, 0x0E],
   [0x09]]

/-- g^d (R12). -/
def coefficient (d : Nat) : Byte := coefficients.getD d 0
/-- g^(-d) (R12). -/
def inverseCoefficient (d : Nat) : Byte := inverseCoefficients.getD d 0
/-- The pair factor of x < y (R12). -/
def pairFactor (x y : Nat) : Byte := (pairFactors.getD x []).getD (y - x - 1) 0

/-! ## One block: every byte position at once -/

/-- The block whose every byte is c. -/
def Block.fill (c : Byte) : Block := BitVec.ofNat blockBits (c.toNat * ((2 ^ blockBits - 1) / 255))

/-- The block of zeros. -/
def Block.zero : Block := 0

/-- Doubling at every byte position: the low seven bits of each byte move up one place, and 1DH is
combined into each byte whose high bit was set. Laws/Parity.lean proves it byte by byte (log 10). -/
def Block.double (b : Block) : Block :=
  let high := (b >>> 7) &&& Block.fill 1
  ((b &&& Block.fill 0x7F) <<< 1) ^^^ high ^^^ (high <<< 2) ^^^ (high <<< 3) ^^^ (high <<< 4)

/-- k doublings of a block. -/
def Block.pow : Nat → Block → Block
  | 0, b => b
  | k + 1, b => Block.double (Block.pow k b)

/-- The product of every byte of a block by one coefficient (R11). -/
def Block.mul (c : Byte) (b : Block) : Block :=
  (List.range 8).foldl (fun acc i => if c.getLsbD i then acc ^^^ Block.pow i b else acc) Block.zero

/-- The even parity bit of each byte, at that byte's lowest bit (R62, log 10). -/
def Block.parity (b : Block) : Block :=
  let b4 := b ^^^ (b >>> 4)
  let b2 := b4 ^^^ (b4 >>> 2)
  (b2 ^^^ (b2 >>> 1)) &&& Block.fill 1

/-! ## Rows -/

/-- The blocks of a row as a caller supplies them: data by data index, P and Q; absent where erased. -/
structure Row where
  data : List (Option Block)
  p : Option Block
  q : Option Block
deriving DecidableEq, Repr

/-- A row with every block in place. -/
structure FullRow where
  data : List Block
  p : Block
  q : Block
deriving DecidableEq, Repr

/-- The ⊕ of g^d·D_d over a list of data blocks from data index d on. -/
def weightedSum : Nat → List Block → Block
  | _, [] => Block.zero
  | d, b :: bs => Block.mul (coefficient d) b ^^^ weightedSum (d + 1) bs

/-- The ⊕ of a list of data blocks. -/
def plainSum : List Block → Block
  | [] => Block.zero
  | b :: bs => b ^^^ plainSum bs

/-- Encoding (R13): P and Q of a full set of data blocks. -/
def encode (data : List Block) : Block × Block := (plainSum data, weightedSum 0 data)

/-- The data indices of the erased data blocks, ascending. -/
def Row.erasedData (r : Row) : List Nat :=
  (List.range r.data.length).filter fun d => (r.data.getD d none).isNone

/-- The number of erased blocks, P and Q among them (R10). -/
def Row.erasedCount (r : Row) : Nat :=
  r.erasedData.length + (if r.p.isNone then 1 else 0) + (if r.q.isNone then 1 else 0)

/-- The residue P′ (R14): P ⊕ every supplied data block. -/
def Row.residueP (r : Row) (p : Block) : Block := p ^^^ plainSum (r.data.map fun b => b.getD Block.zero)

/-- The residue Q′ (R14): Q ⊕ g^d·D_d of every supplied data block. -/
def Row.residueQ (r : Row) (q : Block) : Block := q ^^^ weightedSum 0 (r.data.map fun b => b.getD Block.zero)

/-- The row with its data in place, and P and Q as supplied or else by encoding (R14, R15). -/
def Row.complete (r : Row) (data : List Block) : FullRow :=
  { data := data, p := r.p.getD (encode data).1, q := r.q.getD (encode data).2 }

/-- The data blocks with those of the given indices put in place. -/
def Row.withData (r : Row) (found : List (Nat × Block)) : List Block :=
  (List.range r.data.length).map fun d =>
    match r.data.getD d none with
    | some b => b
    | none => ((found.find? fun e => e.1 == d).map fun e => e.2).getD Block.zero

/-- Reconstruction (R14 to R17): every block of the row, or none when the row is UNRECOVERABLE. -/
def reconstruct (r : Row) : Option FullRow :=
  if 2 < r.erasedCount then none
  else match r.erasedData, r.p, r.q with
    | [], _, _ => some (r.complete (r.withData []))
    | [x], some p, _ => some (r.complete (r.withData [(x, r.residueP p)]))
    | [x], none, some q =>
      some (r.complete (r.withData [(x, Block.mul (inverseCoefficient x) (r.residueQ q))]))
    | [x, y], some p, some q =>
      let dy := Block.mul (pairFactor x y) (r.residueQ q ^^^ Block.mul (coefficient x) (r.residueP p))
      some (r.complete (r.withData [(x, r.residueP p ^^^ dy), (y, dy)]))
    | _, _, _ => none

/-- A delta update of P by one data block (R18). -/
def deltaP (oldP oldD newD : Block) : Block := oldP ^^^ (oldD ^^^ newD)

/-- A delta update of Q by the data block of data index d (R18). -/
def deltaQ (d : Nat) (oldQ oldD newD : Block) : Block := oldQ ^^^ Block.mul (coefficient d) (oldD ^^^ newD)

/-! ## Erasure sets (R10) -/

/-- The place of a cause in Table 1-8. -/
def ErasureCause.rank : ErasureCause → Nat
  | .unavailable => 0
  | .notRead => 1
  | .medium => 2
  | .device => 3
  | .timeout => 4
  | .positionFailed => 5
  | .listed => 6

/-- Of two causes, the first in the order of Table 1-8 (R10). -/
def ErasureCause.first (a b : ErasureCause) : ErasureCause := if a.rank ≤ b.rank then a else b

/-- The outcome of a block for a caller that set out for it more than once (R10, R97): its contents once it has
obtained them, else the first of its causes in the order of Table 1-8. -/
def BlockOutcome.join : BlockOutcome → BlockOutcome → BlockOutcome
  | .good b, _ => .good b
  | .erased _, .good b => .good b
  | .erased a, .erased b => .erased (a.first b)

/-- What became of the block of a position and row, if the caller has set out for it. -/
def cellAt : List Cell → Nat → Nat → Option BlockOutcome
  | [], _, _ => none
  | c :: cs, x, row =>
    if c.position = x ∧ c.row = row then some (((cellAt cs x row).map c.outcome.join).getD c.outcome)
    else cellAt cs x row

/-- The first cause, in the order of Table 1-8, for which the caller once failed to obtain a block. -/
def causeAt : List Cell → Nat → Nat → Option ErasureCause
  | [], _, _ => none
  | c :: cs, x, row =>
    match c.outcome with
    | .erased e =>
      if c.position = x ∧ c.row = row then some (((causeAt cs x row).map e.first).getD e) else causeAt cs x row
    | .good _ => causeAt cs x row

/-- Why a block of a row is an erasure at this moment, or none if it is supplied (R10, Table 1-8). A block with more
than one cause has the first in the table's order, in which LISTED stands last. A block that the caller never set out
for is UNAVAILABLE or NOT-READ as its position stands at this moment (log 25). -/
def State.erasure (s : State) (g : Geometry) (stripe : Nat) (cells : List Cell) (x row : Nat) :
    Option ErasureCause :=
  match cellAt cells x row with
  | none => some (if s.available x stripe then .notRead else .unavailable)
  | some (.erased c) => some c
  | some (.good _) =>
    if s.lel.listed x (g.memberBlock stripe row) then some ((causeAt cells x row).getD .listed) else none

/-- The contents of a block that is supplied at this moment (R10). -/
def State.supplied (s : State) (g : Geometry) (stripe : Nat) (cells : List Cell) (x row : Nat) :
    Option Block :=
  match cellAt cells x row with
  | some (.good b) => if s.lel.listed x (g.memberBlock stripe row) then none else some b
  | _ => none

/-- The erasure set of a row (R10). -/
def State.erasureSet (s : State) (g : Geometry) (stripe : Nat) (cells : List Cell) (row : Nat) : RowErasures :=
  { row := row,
    erased := (List.range g.w).filterMap fun x => (s.erasure g stripe cells x row).map fun c => (x, c) }

/-- The row as the caller supplies it to the PAU (R19). -/
def State.rowOf (s : State) (g : Geometry) (stripe : Nat) (cells : List Cell) (row : Nat) : Row :=
  { data := (List.range g.d).map fun d => s.supplied g stripe cells (g.posData stripe d) row,
    p := s.supplied g stripe cells (g.posP stripe) row,
    q := s.supplied g stripe cells (g.posQ stripe) row }

/-- The block of a full row that lies on a position of a stripe. -/
def FullRow.onPosition (f : FullRow) (g : Geometry) (stripe x : Nat) : Block :=
  match g.role stripe x with
  | .p => f.p
  | .q => f.q
  | .data d => f.data.getD d Block.zero

end Sys2Proof.Machine
end

