-- ==== Sys2Proof/Machine/Buffer.lean ====
section
/-! DEFINITION. The Column Buffer Store (spec/04): lookup, fill, write-through and invalidation. -/

namespace Sys2Proof.Machine

/-- The other way of a set. -/
def Way.other : Way → Way
  | .way0 => .way1
  | .way1 => .way0

/-- The set of a block (R63). -/
def setOf (x m : Nat) : Fin 256 := ⟨(m + 37 * x) % 256, Nat.mod_lt _ (by decide)⟩

/-- The exclusive-or of the bits of a number below 2^n (log 10). -/
def bitsParity (n v : Nat) : Bool := (List.range n).foldl (fun acc i => acc != v.testBit i) false

/-- The two tag parity bits: of the position and of the member block number (R62, log 10). -/
def tagParityOf (x m : Nat) : BitVec 2 :=
  (if bitsParity 4 x then 1 else 0) ||| (if bitsParity 48 m then 2 else 0)

/-- The line of a way in a set. -/
def BufferSet.line (b : BufferSet) : Way → Option Line
  | .way0 => b.line0
  | .way1 => b.line1

/-- The set with the line of a way replaced. -/
def BufferSet.putLine (b : BufferSet) (w : Way) (l : Option Line) : BufferSet :=
  match w with
  | .way0 => { b with line0 := l }
  | .way1 => { b with line1 := l }

/-- The mode flags of a way. -/
def BufferStore.mode (b : BufferStore) : Way → WayMode
  | .way0 => b.mode0
  | .way1 => b.mode1

/-- The store with the mode flags of a way replaced. -/
def BufferStore.putMode (b : BufferStore) (w : Way) (m : WayMode) : BufferStore :=
  match w with
  | .way0 => { b with mode0 := m }
  | .way1 => { b with mode1 := m }

/-- The store with a set replaced. -/
def BufferStore.putSet (b : BufferStore) (i : Fin 256) (x : BufferSet) : BufferStore :=
  { b with sets := b.sets.set i x }

/-- A state with a set of the buffer store replaced. -/
def State.putSet (s : State) (i : Fin 256) (x : BufferSet) : State := { s with cbs := s.cbs.putSet i x }

/-- Whether a line's tag agrees with its tag parity (R66). -/
def Line.tagGood (l : Line) : Bool := l.tagParity == tagParityOf l.position l.block

/-- Whether a line's data agrees with its data parity at every byte (R67). -/
def Line.dataGood (l : Line) : Bool := l.dataParity == Block.parity l.contents

/-- Whether a line carries a tag. -/
def Line.carries (l : Line) (x m : Nat) : Bool := l.position == x && l.block == m

/-- A parity error of the store (Table 4-3). -/
def bufferError (code : ErrorCode) (kind : ErrorKind) (m : Nat) (owner : Option ErrorOwner) : ErrorFields :=
  { code := code, uncorrected := false, block := some m, count := 1, kind := some kind, owner := owner }

/-- A bad line is invalidated and its error handed to the buffer bank (R66, R67, R76). -/
def State.badLine (s : State) (i : Fin 256) (w : Way) (e : ErrorFields) : State :=
  State.takeError bufferBank e (s.putSet i ((s.cbs.sets.get i).putLine w none))

/-- What comparing one way shows of the block sought. -/
inductive WayVerdict where
  | other | badTag | badData
  | found (contents : Block)
deriving DecidableEq, Repr

/-- One way of the set takes part in a lookup (R65 to R67). -/
def State.compareWay (owner : Owner) (x m : Nat) (w : Way) (s : State) : State × WayVerdict :=
  let i := setOf x m
  if (s.cbs.mode w).forceMiss then (s, .other)
  else
    match (s.cbs.sets.get i).line w with
    | none => (s, .other)
    | some l =>
      if l.tagGood then
        if l.carries x m then
          if l.dataGood then (s, .found l.contents)
          else (s.badLine i w (bufferError .dataParity .lookup m (some owner.errorOwner)), .badData)
        else (s, .other)
      else (s.badLine i w (bufferError .tagParity .lookup m (some owner.errorOwner)), .badTag)

/-- The end of a lookup (R65): a hit with the block, or a miss with a refetch note where one is given. -/
inductive LookupEnd where
  | hit (contents : Block)
  | miss (note : Option Way)
deriving DecidableEq, Repr

/-- The end of a lookup from what its two ways showed, and the way hit (R65 to R67). -/
def lookupEnd : WayVerdict → WayVerdict → LookupEnd × Option Way
  | .found b, _ => (.hit b, some .way0)
  | _, .found b => (.hit b, some .way1)
  | .badData, _ => (.miss (some .way0), none)
  | _, .badData => (.miss (some .way1), none)
  | .badTag, _ => (.miss (some .way0), none)
  | _, .badTag => (.miss (some .way1), none)
  | .other, .other => (.miss none, none)

/-- A lookup of one block (R65). Way 0 is compared first: of two bad lines its error reaches the bank first
(R66; log 27). -/
def State.lookup (owner : Owner) (x m : Nat) (s : State) : State × LookupEnd :=
  let c0 := s.compareWay owner x m .way0
  let c1 := c0.1.compareWay owner x m .way1
  let result := lookupEnd c0.2 c1.2
  match result.2 with
  | some w =>
    (c1.1.putSet (setOf x m) { c1.1.cbs.sets.get (setOf x m) with replace := w.other }, result.1)
  | none => (c1.1, result.1)

/-- A block is placed in a way of its set (R62, R74): fresh tag parity and data parity, inverted if the
way's inject flag is set, which clears; the replacement bit names the other way. -/
def State.place (x m : Nat) (b : Block) (w : Way) (s : State) : State :=
  let i := setOf x m
  let inject := (s.cbs.mode w).inject
  let parity := if inject then Block.parity b ^^^ Block.fill 1 else Block.parity b
  let l : Line :=
    { position := x, block := m, tagParity := tagParityOf x m, contents := b, dataParity := parity }
  let cbs := s.cbs.putSet i { (s.cbs.sets.get i).putLine w (some l) with replace := w.other }
  { s with cbs := cbs.putMode w { s.cbs.mode w with inject := false } }

/-- Whether a way is a candidate for fills (R70). -/
def BufferStore.candidate (b : BufferStore) (w : Way) : Bool :=
  !(b.mode w).forceMiss && !(b.mode w.other).forceReplace

/-- The way that already holds a valid line with the block's tag, force-miss ways apart (R69). -/
def BufferStore.duplicate (b : BufferStore) (x m : Nat) : Option Way :=
  [Way.way0, Way.way1].find? fun w =>
    !(b.mode w).forceMiss && (((b.sets.get (setOf x m)).line w).any fun l => l.carries x m)

/-- The way a fill takes (R70, Table 4-2). -/
def BufferStore.fillWay (b : BufferStore) (i : Fin 256) : Option Way :=
  match b.candidate .way0, b.candidate .way1 with
  | false, false => none
  | true, false => some .way0
  | false, true => some .way1
  | true, true =>
    if (b.sets.get i).line0.isNone then some .way0
    else if (b.sets.get i).line1.isNone then some .way1
    else some (b.sets.get i).replace

/-- The way a block goes into when it may be placed. With a refetch note: the line that carries it, else the
noted way if it is a candidate (R68). Without one: nowhere while no way is a candidate, else the line that
carries it, else the way of a fill (R69, R70). -/
def BufferStore.placeWay (b : BufferStore) (x m : Nat) (note : Option Way) : Option Way :=
  match note, b.duplicate x m with
  | some _, some w => some w
  | some w, none => if b.candidate w then some w else none
  | none, some w => if b.candidate .way0 || b.candidate .way1 then some w else none
  | none, none => b.fillWay (setOf x m)

/-- Whether a line may name member block m of position x now (R64): the position is IN-SERVICE, or REBUILDING with the
block's stripe covered. -/
def State.lineAllowed (s : State) (x m : Nat) : Bool :=
  s.geom.any fun g => s.available x (g.memberStripe m)

/-- Whether a block of position x that a channel delivered may be placed now. With a refetch note the position must be
eligible under R64 (R68); without one it must also stand on the channel that performed the READ (R69). -/
def State.eligible (s : State) (c : Chan) (x m : Nat) (note : Option Way) : Bool :=
  s.lineAllowed x m && (note.isSome || ((s.table.position x).any fun p => p.channel == some c))

/-- Whether a block lies in one of the runs of orphan WRITEs (R69, last condition). -/
def shadowed (shadow : List (Nat × Nat)) (m : Nat) : Bool :=
  shadow.any fun r => decide (r.1 ≤ m) && decide (m < r.1 + r.2)

/-- One good block of a foreground READ's outcome is considered for placement (R68, R69). -/
def State.fillBlock (c : Chan) (x m : Nat) (b : Block) (note : Option Way) (shadow : List (Nat × Nat))
    (s : State) : State :=
  if s.eligible c x m note && !shadowed shadow m then
    match s.cbs.placeWay x m note with
    | some w => s.place x m b w
    | none => s
  else s

/-- The good blocks of a foreground READ's outcome, in ascending member block order (R69). -/
def State.fillAll (c : Chan) (x : Nat) (notes : List RefetchNote) (shadow : List (Nat × Nat)) :
    Nat → List BlockOutcome → State → State
  | _, [], s => s
  | m, .good b :: rest, s =>
    let note := (notes.find? fun n => n.block == m).map fun n => n.way
    State.fillAll c x notes shadow (m + 1) rest (s.fillBlock c x m b note shadow)
  | m, .erased _ :: rest, s => State.fillAll c x notes shadow (m + 1) rest s

/-- One way of the set takes part in a write-through update of one block (R71). -/
def State.updateWay (owner : Option ErrorOwner) (x m : Nat) (b : Block) (w : Way) (s : State) : State :=
  let i := setOf x m
  if (s.cbs.mode w).forceMiss then s
  else
    match (s.cbs.sets.get i).line w with
    | none => s
    | some l =>
      if l.tagGood then
        if l.carries x m then
          s.putSet i ((s.cbs.sets.get i).putLine w
            (some { l with contents := b, dataParity := Block.parity b }))
        else s
      else s.badLine i w (bufferError .tagParity .write m owner)

/-- The write-through update of the blocks of a stored WRITE, ascending (R71). -/
def State.writeThrough (owner : Option ErrorOwner) (x : Nat) : Nat → List Block → State → State
  | _, [], s => s
  | m, b :: rest, s =>
    State.writeThrough owner x (m + 1) rest ((s.updateWay owner x m b .way0).updateWay owner x m b .way1)

/-- A set without its lines that meet a condition. -/
def BufferSet.drop (gone : Way → Line → Bool) (b : BufferSet) : BufferSet :=
  { b with line0 := b.line0.filter fun l => !gone .way0 l, line1 := b.line1.filter fun l => !gone .way1 l }

/-- Lines are invalidated (R72). -/
def State.invalidate (gone : Way → Line → Bool) (s : State) : State :=
  { s with cbs := { s.cbs with sets := s.cbs.sets.map (BufferSet.drop gone) } }

/-- Every line whose tag names a position is invalidated (R72). -/
def State.invalidatePosition (x : Nat) (s : State) : State := s.invalidate fun _ l => l.position == x

/-- The number of valid lines of a way (R75). -/
def BufferStore.validLines (b : BufferStore) (w : Way) : Nat :=
  (b.sets.toList.filter fun set => (set.line w).isSome).length

end Sys2Proof.Machine
end

