-- ==== Sys2Proof/Machine/Lost.lean ====
section
/-! DEFINITION. The Lost Extent List (spec/08): additions, trims and drops. -/

namespace Sys2Proof.Machine

/-- The block after an entry's last block. -/
def LostEntry.stop (e : LostEntry) : Nat := e.first + e.count

/-- The order of the list (R146): by position, then by first block. -/
def LostEntry.precedes (a b : LostEntry) : Bool :=
  decide (a.position < b.position) || (a.position == b.position && decide (a.first < b.first))

/-- Whether b follows a without a gap and the two may be joined (R148, step 2). -/
def LostEntry.joins (a b : LostEntry) : Bool :=
  a.position == b.position && a.cause == b.cause && a.stop == b.first
    && decide (a.count + b.count ≤ Config.maxLostCount)

/-- The parts of a run, given as first block and count, that lie outside an entry. -/
def LostEntry.outside (e : LostEntry) (run : Nat × Nat) : List (Nat × Nat) :=
  let stop := run.1 + run.2
  (if run.1 < e.first then [(run.1, min stop e.first - run.1)] else []) ++
  (if e.stop < stop then [(max run.1 e.stop, stop - max run.1 e.stop)] else [])

/-- The pieces of an addition: the runs of its blocks that no entry lists (R148, step 1). -/
def lostPieces (entries : List LostEntry) (x first count : Nat) : List (Nat × Nat) :=
  (entries.filter fun e => e.position == x).foldl (fun runs e => runs.flatMap e.outside)
    (if count = 0 then [] else [(first, count)])

/-- An entry put in front of the rest of the list, joined to its successor where R148 allows. -/
def joinNext (e : LostEntry) : List LostEntry → List LostEntry
  | [] => [e]
  | x :: xs => if e.joins x then { e with count := e.count + x.count } :: xs else e :: x :: xs

/-- A piece joined to its neighbours or placed in order (R148, steps 2 and 3). -/
def placeEntry (e : LostEntry) : List LostEntry → List LostEntry
  | [] => [e]
  | x :: xs =>
    if x.joins e then joinNext { x with count := x.count + e.count } xs
    else if x.precedes e then x :: placeEntry e xs
    else joinNext e (x :: xs)

/-- The entries that an addition would leave (R148). -/
def addLostEntries (entries : List LostEntry) (x first count : Nat) (cause : LostCause) : List LostEntry :=
  (lostPieces entries x first count).foldl
    (fun es run => placeEntry { position := x, first := run.1, count := run.2, cause := cause } es) entries

/-- An addition, taken or refused (R149); a taken one latches LIST-NEAR-FULL in the yellow zone (R150). -/
def State.addLost (x first count : Nat) (cause : LostCause) (s : State) : Bool × State :=
  let entries := addLostEntries s.lel.entries x first count cause
  if s.lel.limit < entries.length then (false, s)
  else
    let s1 : State := { s with lel := { s.lel with entries := entries } }
    (true, if s.lel.limit ≤ entries.length + 8 then s1.latch .listNearFull else s1)

/-- What a removed run leaves of an entry (R151); room says whether a split is possible. A shortened entry is not
merged with a neighbour that it would now fit (R146; log 28). -/
def LostEntry.without (room : Bool) (x first count : Nat) (e : LostEntry) : List LostEntry :=
  let stop := first + count
  if e.position == x && decide (0 < count) && decide (first < e.stop) && decide (e.first < stop) then
    let low := decide (e.first < first)
    let high := decide (stop < e.stop)
    if low && high && !room then [e]
    else
      (if low then [{ e with count := first - e.first }] else []) ++
      (if high then [{ e with first := stop, count := e.stop - stop }] else [])
  else [e]

/-- The list after a trim or an accepted drop of a run (R151, R154). -/
def LostList.remove (l : LostList) (x first count : Nat) : LostList :=
  { l with
    entries := l.entries.flatMap
      (LostEntry.without (decide (l.entries.length < l.limit)) x first count) }

/-- A trim (R151). -/
def State.trim (x first count : Nat) (s : State) : State := { s with lel := s.lel.remove x first count }

/-- Whether a run lies strictly inside one entry (R154, check 4). -/
def LostList.strictlyInside (l : LostList) (x first count : Nat) : Bool :=
  l.entries.any fun e => e.position == x && decide (e.first < first) && decide (first + count < e.stop)

/-- The number of blocks the list names. -/
def LostList.blocks (l : LostList) : Nat := (l.entries.map fun e => e.count).sum

/-- The runs of blocks marked by a list of flags, from a first block on. -/
def markedRuns (first : Nat) : List Bool → List (Nat × Nat)
  | [] => []
  | false :: fs => markedRuns (first + 1) fs
  | true :: fs =>
    match markedRuns (first + 1) fs with
    | (a, n) :: rest => if a = first + 1 then (first, n + 1) :: rest else (first, 1) :: (a, n) :: rest
    | [] => [(first, 1)]

/-- The trims of a stored WRITE: one for each run of its blocks that is handed for trimming (R110, R126), in
ascending member block order (log 28). -/
def State.trimRuns (x : Nat) (runs : List (Nat × Nat)) (s : State) : State :=
  runs.foldl (fun s run => s.trim x run.1 run.2) s

end Sys2Proof.Machine
end

