-- ==== Sys2Proof/Machine/Channels.lean ====
section
/-! DEFINITION. The drive channels (spec/03): drive-link tags, the slot arbiter, probes, and what becomes of
a channel's commands when they end. -/

namespace Sys2Proof.Machine

/-- The record of a channel. -/
def State.channel (s : State) (c : Chan) : Channel := s.dc.channels.get c

/-- The state with a channel record replaced. -/
def State.putChannel (c : Chan) (x : Channel) (s : State) : State :=
  { s with dc := { s.dc with channels := s.dc.channels.set c x } }

/-- The slots with their numbers. -/
def Channel.numbered (ch : Channel) : List (Fin 4 × Option Slot) :=
  [(0, ch.slots.get 0), (1, ch.slots.get 1), (2, ch.slots.get 2), (3, ch.slots.get 3)]

/-- The first free slot (section 3.4.1, step 8). -/
def Channel.freeSlot (ch : Channel) : Option (Fin 4) :=
  (ch.numbered.find? fun e => e.2.isNone).map fun e => e.1

/-- The slot of the outstanding command that carries a drive-link tag (R52). -/
def Channel.findTag (ch : Channel) (tag : Nat) : Option (Fin 4 × Slot) :=
  ch.numbered.findSome? fun e =>
    match e.2 with
    | some slot => if slot.tag = tag then some (e.1, slot) else none
    | none => none

/-- A channel with a slot replaced. -/
def Channel.putSlot (ch : Channel) (i : Fin 4) (x : Option Slot) : Channel :=
  { ch with slots := ch.slots.set i x }

/-- The drive-link tags of the outstanding commands. -/
def Channel.tagsOut (ch : Channel) : List Nat :=
  ch.numbered.filterMap fun e => e.2.map fun slot => slot.tag

/-- The first counter value from v on that is not among the tags given (R48). -/
def skipTags (used : List Nat) : Nat → Nat → Nat
  | 0, v => v
  | n + 1, v => if used.contains v then skipTags used n ((v + 1) % 65536) else v

/-- The tag a command takes (R48): values still carried by an outstanding command are passed over. -/
def Channel.nextTag (ch : Channel) : Nat := skipTags ch.tagsOut 4 ch.tagCounter

/-- A command is sent to the drive in a slot (R48, R55): it takes the next tag, the counter steps on, and
its timer starts with the allowance given. -/
def Channel.send (ch : Channel) (i : Fin 4) (allowance : Nat) (work : SlotWork) : Channel :=
  let tag := ch.nextTag
  { ch.putSlot i (some { tag := tag, allowance := allowance, work := work }) with
    tagCounter := (tag + 1) % 65536 }

/-- The number of slots that hold a rebuild-owned command (R50). -/
def Channel.rebuildOut (ch : Channel) : Nat :=
  (ch.numbered.filter fun e =>
    match e.2 with
    | some { work := .owned (.job _) .., .. } => true
    | _ => false).length

/-- The number of slots that hold a foreground-owned command (R59). -/
def Channel.foregroundOut (ch : Channel) : Nat :=
  (ch.numbered.filter fun e =>
    match e.2 with
    | some { work := .owned (.segment _) .., .. } => true
    | _ => false).length

/-- Whether a probe occupies a slot (R59). -/
def Channel.probing (ch : Channel) : Bool :=
  ch.numbered.any fun e =>
    match e.2 with
    | some { work := .probe, .. } => true
    | _ => false

/-- The runs of blocks of the orphan WRITEs in the slots (R69). -/
def Channel.orphanWrites (ch : Channel) : List (Nat × Nat) :=
  ch.numbered.filterMap fun e =>
    match e.2 with
    | some { work := .orphan { first := first, count := count, op := .write .., .. }, .. } => some (first, count)
    | _ => none

/-- A command of a queue is issued into a free slot (R50). -/
def Channel.issue (ch : Channel) (i : Fin 4) (q : QueuedCmd) : Channel :=
  ch.send i ch.timeout (.owned q.owner q.cmd q.cmd.first [] 0 ch.orphanWrites)

/-- One choice of the arbiter (R50): the channel after it, or none when the slot stays free. -/
def Channel.arbitrateOnce (share : Nat) (ch : Channel) : Option Channel :=
  match ch.freeSlot with
  | none => none
  | some i =>
    match ch.rebuild, decide (ch.rebuildOut < share), ch.foreground with
    | q :: rest, true, _ => some (Channel.issue { ch with rebuild := rest } i q)
    | _, _, q :: rest => some (Channel.issue { ch with foreground := rest } i q)
    | _, _, [] => none

/-- The arbiter (R50): at most n choices, one for each slot that can be free. -/
def Channel.arbitrate (share : Nat) : Nat → Channel → Channel
  | 0, ch => ch
  | n + 1, ch =>
    match ch.arbitrateOnce share with
    | some ch' => Channel.arbitrate share n ch'
    | none => ch

/-- The arbiter of a READY channel runs (R50). -/
def State.runArbiter (c : Chan) (s : State) : State :=
  let ch := s.channel c
  if ch.state = .ready then s.putChannel c (ch.arbitrate s.dc.share 4) else s

/-- A command joins the tail of its pending queue (R49). -/
def Channel.enqueue (ch : Channel) (o : Owner) (cmd : DriveCmd) : Channel :=
  match o with
  | .segment _ => { ch with foreground := ch.foreground ++ [{ owner := o, cmd := cmd }] }
  | .job _ => { ch with rebuild := ch.rebuild ++ [{ owner := o, cmd := cmd }] }

/-- A command that ends as failed for its owner (R35, R49): the blocks of a READ not yet accounted for are
erasures with cause POSITION-FAILED. -/
def endedFailed (o : Owner) (cmd : DriveCmd) (performed : Option Chan) (outcomes : List BlockOutcome)
    (shadow : List (Nat × Nat)) : Task :=
  match cmd.op with
  | .read _ =>
    .readDone o cmd performed
      (outcomes ++ List.replicate (cmd.count - outcomes.length) (.erased .positionFailed)) shadow
  | .write .. => .writeDone o

/-- An owner hands a command to the channel of the position it addresses (R49). -/
def State.handCommand (o : Owner) (cmd : DriveCmd) (s : State) : State :=
  match (s.table.position cmd.position).bind fun p => p.channel with
  | some c =>
    if (s.channel c).state = .ready then
      State.runArbiter c (s.putChannel c ((s.channel c).enqueue o cmd))
    else s.later (endedFailed o cmd none [] [])
  | none => s.later (endedFailed o cmd none [] [])

/-- What the end of every command of a channel hands to its owners: slots in order, then the foreground
and the rebuild queue (R35; log 4). Orphans have no owner. -/
def Channel.endings (c : Chan) (ch : Channel) : List Task :=
  (ch.numbered.filterMap fun e =>
    match e.2 with
    | some { work := .owned o cmd _ outcomes _ shadow, .. } => some (endedFailed o cmd (some c) outcomes shadow)
    | _ => none) ++
  ((ch.foreground ++ ch.rebuild).map fun q => endedFailed q.owner q.cmd (some c) [] [])

/-- A channel without commands. -/
def Channel.emptied (ch : Channel) : Channel :=
  { ch with slots := Vec.replicate 4 none, foreground := [], rebuild := [] }

/-- A channel whose position has failed (R35): EMPTY after a removal, else OFFLINE with its capacity kept. -/
def Channel.failed (ch : Channel) (cause : FailCause) : Channel :=
  match cause with
  | .removed => { ch.emptied with state := .empty, presence := false, capacity := none }
  | _ => { ch.emptied with state := .offline }

/-- A probe begins (R43, steps 2 to 5). Its CAPACITY command takes slot 0: R43 says only "in one slot" (log 29). -/
def State.startProbe (c : Chan) (s : State) : State :=
  let ch := (s.channel c).emptied
  State.latch .channelChange
    (s.putChannel c ({ ch with state := .probing, capacity := none }.send 0 Config.probeAllowance .probe))

/-- A probe ends with a block count (R44). -/
def State.probeGood (c : Chan) (capacity : Nat) (s : State) : State :=
  State.latch .channelChange
    (s.putChannel c { (s.channel c).emptied with state := .ready, capacity := some capacity })

/-- The error of a probe that fails (Table 3-3). -/
def probeError : ErrorFields :=
  { code := .probeFail, uncorrected := false, block := none, count := 0, kind := some .capacity, owner := none }

/-- A probe ends in error or by its allowance (R44). -/
def State.probeFailed (c : Chan) (s : State) : State :=
  State.latch .channelChange
    (State.takeError (channelBank c) probeError
      (s.putChannel c { (s.channel c).emptied with state := .offline, capacity := none }))

/-- The assignment of a spare's channel is cancelled (R38). -/
def State.cancelSpare (c : Chan) (s : State) : State :=
  match s.table.spareOf c with
  | none => s
  | some x =>
    match s.table.position x with
    | none => s
    | some p =>
      { s with table := s.table.setPosition x { p with spare := none, cause := some .spareLost } }

/-- The number of blocks a READ or its reissue outstanding asks for. -/
def DriveCmd.remaining (cmd : DriveCmd) (next : Nat) : Nat := cmd.first + cmd.count - next

/-- The n first blocks that a completion delivers; one that it does not carry is free (log 8). -/
def State.delivered (s : State) (r : Completion) (n : Nat) : List BlockOutcome :=
  (List.range n).map fun j => .good (r.blocks.getD j (Config.freeBlock (s.free + j)))

/-- The free values that delivering n blocks uses up (log 8). -/
def State.useFree (n : Nat) (r : Completion) (s : State) : State :=
  if r.blocks.length < n then { s with free := s.free + n } else s

/-- n erasures with one cause. -/
def erasures (n : Nat) (c : ErasureCause) : List BlockOutcome := List.replicate n (.erased c)

/-- An error of a READ or WRITE (Table 3-3, Table 10-2). -/
def driveError (code : ErrorCode) (isWrite : Bool) (block count : Nat) (owner : Option ErrorOwner) :
    ErrorFields :=
  { code := code, uncorrected := isWrite, block := some block, count := count,
    kind := some (if isWrite then .write else .read), owner := owner }

/-- The progress of a READ is recorded in its slot (R53). -/
def State.progress (c : Chan) (i : Fin 4) (slot : Slot) (o : Owner) (cmd : DriveCmd) (next : Nat)
    (outcomes : List BlockOutcome) (reissues : Nat) (shadow : List (Nat × Nat)) (s : State) : State :=
  s.putChannel c ((s.channel c).putSlot i
    (some { slot with work := .owned o cmd next outcomes reissues shadow }))

/-- A READ or reissue that ends DEVICE (R54): its blocks are erasures, and the original command ends once
the error is taken. An auto-fail demand that the error raises is judged before that end (log 30). -/
def State.readDevice (c : Chan) (i : Fin 4) (slot : Slot) (o : Owner) (cmd : DriveCmd) (next : Nat)
    (outcomes : List BlockOutcome) (reissues : Nat) (shadow : List (Nat × Nat)) (s : State) : State :=
  let n := cmd.remaining next
  let s1 := s.progress c i slot o cmd (next + n) (outcomes ++ erasures n .device) reissues shadow
  State.later (.reissue c i)
    (s1.takeError (channelBank c) (driveError .device false next n (some o.errorOwner)))

/-- A READ or reissue is answered (R53, R54). An auto-fail demand that the MEDIUM-READ raises is judged before the
reissue is sent: where it fails the position, no reissue is sent and no tag taken (log 30). -/
def State.readAnswer (c : Chan) (i : Fin 4) (slot : Slot) (o : Owner) (cmd : DriveCmd) (next : Nat)
    (outcomes : List BlockOutcome) (reissues : Nat) (shadow : List (Nat × Nat)) (r : Completion)
    (s : State) : State :=
  let n := cmd.remaining next
  match r.result with
  | .good =>
    let s1 := s.progress c i slot o cmd (next + n) (outcomes ++ s.delivered r n) reissues shadow
    State.later (.reissue c i) (s1.useFree n r)
  | .device => s.readDevice c i slot o cmd next outcomes reissues shadow
  | .medium =>
    let m := r.number
    if next ≤ m ∧ m < next + n then
      let upTo := outcomes ++ s.delivered r (m - next) ++ erasures 1 .medium
      let rest := next + n - (m + 1)
      let s1 :=
        if reissues = Config.maxReissues then
          s.progress c i slot o cmd (next + n) (upTo ++ erasures rest .medium) reissues shadow
        else s.progress c i slot o cmd (m + 1) upTo reissues shadow
      State.later (.reissue c i)
        (State.takeError (channelBank c) (driveError .mediumRead false m n (some o.errorOwner))
          (s1.useFree (m - next) r))
    else s.readDevice c i slot o cmd next outcomes reissues shadow

/-- A slot is freed and the arbiter runs (R50). -/
def State.freeSlot (c : Chan) (i : Fin 4) (s : State) : State :=
  State.runArbiter c (s.putChannel c ((s.channel c).putSlot i none))

/-- What follows an answered READ (R53, R54): while blocks remain the remainder is reissued in the same
slot; else the slot is freed and the outcome handed over. A position failure may have ended it first. -/
def State.continueRead (c : Chan) (i : Fin 4) (s : State) : State :=
  match (s.channel c).slots.get i with
  | some { work := .owned o cmd next outcomes reissues shadow, .. } =>
    if cmd.remaining next = 0 then
      State.later (.readDone o cmd (some c) outcomes shadow) (s.freeSlot c i)
    else
      let ch := (s.channel c).putSlot i none
      s.putChannel c (ch.send i ch.timeout (.owned o cmd next outcomes (reissues + 1) shadow))
  | _ => s

/-- The blocks of a WRITE. -/
def DriveCmd.blocks (cmd : DriveCmd) : List Block :=
  match cmd.op with
  | .write bs _ => bs
  | .read _ => []

/-- The runs of a WRITE that are handed for trimming. -/
def DriveCmd.trims (cmd : DriveCmd) : List (Nat × Nat) :=
  match cmd.op with
  | .write _ flags => markedRuns cmd.first flags
  | .read _ => []

/-- A failed WRITE's error and what it does (R32, R56, R61). On a member channel the position fails; of a
demand that the same error raises and that failure, either may come first (log 3). -/
def State.writeFailed (c : Chan) (e : ErrorFields) (s : State) : State :=
  if (s.table.memberOf c).isSome then
    let bank := s.eba.banks.get (channelBank c)
    if bank.reaches && bank.autoFail then
      let s1 : State := { s with free := s.free + 1 }
      if Config.demandFirst s.free then
        State.later (.failChannel c .writeFailure) (s1.takeError (channelBank c) e)
      else
        State.takeError (channelBank c) e (s1.later (.failChannel c .writeFailure))
    else State.later (.failChannel c .writeFailure) (s.takeError (channelBank c) e)
  else s.takeError (channelBank c) e

/-- The error of a failed WRITE completion (Table 3-3): the first bad block of a MEDIUM, else the first
block. -/
def writeError (cmd : DriveCmd) (r : Completion) (owner : Option ErrorOwner) : ErrorFields :=
  match r.result with
  | .medium => driveError .mediumWrite true r.number cmd.count owner
  | _ => driveError .device true cmd.first cmd.count owner

/-- An owned WRITE is answered (R56). One that failed ends for its owner behind the failure of the position, and so
behind the ends of the channel's other commands (log 4). -/
def State.writeAnswer (c : Chan) (i : Fin 4) (o : Owner) (cmd : DriveCmd) (r : Completion) (s : State) :
    State :=
  match r.result with
  | .good =>
    let s1 := State.trimRuns cmd.position cmd.trims
      (s.writeThrough (some o.errorOwner) cmd.position cmd.first cmd.blocks)
    State.later (.writeDone o) (s1.freeSlot c i)
  | _ =>
    let s1 := s.putChannel c ((s.channel c).putSlot i none)
    State.laterAll [.writeDone o, .arbiter c] (s1.writeFailed c (writeError cmd r (some o.errorOwner)))

/-- The write-through update of an orphan WRITE (R61, R71): its blocks are compared under the position that its channel
holds at that moment, so that it finds no valid line (R77; log 26). A channel that holds none updates nothing. -/
def State.orphanUpdate (c : Chan) (cmd : DriveCmd) (s : State) : State :=
  match s.table.memberOf c with
  | some x => s.writeThrough none x cmd.first cmd.blocks
  | none => s

/-- An orphan of a restart is answered (R61). -/
def State.orphanAnswer (c : Chan) (i : Fin 4) (cmd : DriveCmd) (r : Completion) (s : State) : State :=
  match cmd.op, r.result with
  | .read _, _ => s.freeSlot c i
  | .write .., .good => (s.orphanUpdate c cmd).freeSlot c i
  | .write .., _ =>
    let s1 := s.putChannel c ((s.channel c).putSlot i none)
    State.later (.arbiter c) (s1.writeFailed c (writeError cmd r none))

/-- The CAPACITY command is answered (R44). -/
def State.probeAnswer (c : Chan) (r : Completion) (s : State) : State :=
  match r.result with
  | .good => s.probeGood c r.number
  | _ => s.probeFailed c

/-- The error of a completion that matches no outstanding command (Table 3-3). -/
def unmatchedError : ErrorFields :=
  { code := .unmatchedCompletion, uncorrected := false, block := none, count := 0, kind := none, owner := none }

/-- A completion arrives at a channel (R46, R52). -/
def State.completion (c : Chan) (tag : Nat) (r : Completion) (s : State) : State :=
  let ch := s.channel c
  if ch.state = .empty ∨ ch.state = .offline then s
  else
    match ch.findTag tag with
    | none => s.takeError (channelBank c) unmatchedError
    | some (i, slot) =>
      match slot.work with
      | .probe => s.probeAnswer c r
      | .owned o cmd next outcomes reissues shadow =>
        match cmd.op with
        | .read _ => s.readAnswer c i slot o cmd next outcomes reissues shadow r
        | .write .. => s.writeAnswer c i o cmd r
      | .orphan cmd => s.orphanAnswer c i cmd r

/-- The timer of a READ or WRITE expires (R55, R61). An auto-fail demand that a READ's error raises is judged before the
READ's outcome reaches its owner (log 30). -/
def State.commandTimeout (c : Chan) (tag : Nat) (s : State) : State :=
  match (s.channel c).findTag tag with
  | none => s
  | some (i, slot) =>
    match slot.work with
    | .probe => s
    | .orphan cmd =>
      match cmd.op with
      | .read _ => s.freeSlot c i
      | .write .. => (s.freeSlot c i).writeFailed c (driveError .timeout true cmd.first cmd.count none)
    | .owned o cmd next outcomes _ shadow =>
      match cmd.op with
      | .read _ =>
        let n := cmd.remaining next
        State.later (.readDone o cmd (some c) (outcomes ++ erasures n .timeout) shadow)
          ((s.freeSlot c i).takeError (channelBank c) (driveError .timeout false next n (some o.errorOwner)))
      | .write .. =>
        State.later (.writeDone o)
          ((s.freeSlot c i).writeFailed c (driveError .timeout true cmd.first cmd.count (some o.errorOwner)))

/-- An insertion event (R43): it reaches an EMPTY channel. -/
def State.insertion (c : Chan) (s : State) : State :=
  let ch := s.channel c
  if ch.state = .empty then State.startProbe c (s.putChannel c { ch with presence := true }) else s

/-- The probe allowance expires (R44): it runs while the channel is PROBING. -/
def State.probeExpiry (c : Chan) (s : State) : State :=
  if (s.channel c).state = .probing then s.probeFailed c else s

/-- A removal event (R45). On a member the position's failure follows (R31). Off a member the spec expects no
command with an owner; one that a position returned to FAILED has left ends as failed (log 23). -/
def State.removal (c : Chan) (s : State) : State :=
  let ch := s.channel c
  if ch.state = .empty then s
  else if (s.table.memberOf c).isSome then
    State.later (.failChannel c .removed) (State.latch .channelChange (s.putChannel c { ch with presence := false }))
  else
    State.laterAll (ch.endings c)
      (State.cancelSpare c (State.latch .channelChange (s.putChannel c (ch.failed .removed))))

end Sys2Proof.Machine
end

