-- ==== Sys2Proof/Machine/Locks.lean ====
section
/-! DEFINITION. The Stripe Lock Table (spec/05): lock requests, releases and withdrawals. Each act gives
the table it leaves and the requesters it grants, in order. -/

namespace Sys2Proof.Machine

/-- What an act of the lock table leaves. -/
structure LockResult where
  table : LockTable
  granted : List Requester
deriving DecidableEq, Repr

/-- The entry of a stripe, if it has one. -/
def LockTable.entryOf (t : LockTable) (stripe : Nat) : Option LockEntry :=
  t.entries.find? fun e => e.stripe == stripe

/-- The table with the entry of a stripe replaced. -/
def LockTable.putEntry (t : LockTable) (e : LockEntry) : LockTable :=
  { t with entries := t.entries.map fun x => if x.stripe == e.stripe then e else x }

/-- A lock request on an entry that exists (R82). -/
def LockTable.join (t : LockTable) (e : LockEntry) (r : Requester) (mode : LockMode) : LockResult :=
  if mode = .shared ∧ e.mode = .shared ∧ e.waiters = [] then
    { table := t.putEntry { e with holders := e.holders ++ [r] }, granted := [r] }
  else
    { table := t.putEntry { e with waiters := e.waiters ++ [{ requester := r, mode := mode }] }, granted := [] }

/-- A lock request (R81, R82). -/
def LockTable.request (t : LockTable) (r : Requester) (stripe : Nat) (mode : LockMode) : LockResult :=
  match t.entryOf stripe with
  | some e => t.join e r mode
  | none =>
    if t.entries.length < Config.lockEntries then
      { table := { t with
          entries := t.entries ++ [{ stripe := stripe, mode := mode, holders := [r], waiters := [] }] },
        granted := [r] }
    else
      { table := { t with
          fullQueue := t.fullQueue ++ [{ requester := r, stripe := stripe, mode := mode }] },
        granted := [] }

/-- The SHARED waiters at the head of a queue, and the rest (R85, steps 2 and 3). -/
def sharedHead : List Waiter → List Requester × List Waiter
  | [] => ([], [])
  | w :: ws =>
    if w.mode = .shared then
      let rest := sharedHead ws
      (w.requester :: rest.1, rest.2)
    else ([], w :: ws)

/-- An entry passes to its waiters (R85), the head waiter being w. -/
def LockEntry.pass (e : LockEntry) (w : Waiter) (ws : List Waiter) : LockEntry × List Requester :=
  match w.mode with
  | .exclusive =>
    ({ e with mode := .exclusive, holders := [w.requester], waiters := ws }, [w.requester])
  | .shared =>
    let more := sharedHead ws
    ({ e with mode := .shared, holders := w.requester :: more.1, waiters := more.2 },
      w.requester :: more.1)

/-- Records that leave the table-full queue together are taken one by one against the new entry (R86,
step 2). -/
def LockTable.joinAll : LockTable → List WaitRecord → LockResult
  | t, [] => { table := t, granted := [] }
  | t, w :: ws =>
    let one := t.request w.requester w.stripe w.mode
    let rest := one.table.joinAll ws
    { table := rest.table, granted := one.granted ++ rest.granted }

/-- An entry has been given up: the table-full queue is served (R86). -/
def LockTable.serveFull (t : LockTable) : LockResult :=
  match t.fullQueue with
  | [] => { table := t, granted := [] }
  | h :: rest =>
    let same := rest.filter fun w => w.stripe == h.stripe
    let t1 : LockTable :=
      { entries := t.entries ++ [{ stripe := h.stripe, mode := h.mode, holders := [h.requester], waiters := [] }],
        fullQueue := rest.filter fun w => w.stripe != h.stripe }
    let more := t1.joinAll same
    { table := more.table, granted := h.requester :: more.granted }

/-- A release by a holder (R84 to R86). A requester that holds nothing changes nothing. -/
def LockTable.release (t : LockTable) (r : Requester) : LockResult :=
  match t.entries.find? fun e => e.holders.contains r with
  | none => { table := t, granted := [] }
  | some e =>
    match e.holders.filter fun h => h != r with
    | h :: hs => { table := t.putEntry { e with holders := h :: hs }, granted := [] }
    | [] =>
      match e.waiters with
      | w :: ws =>
        let passed := e.pass w ws
        { table := t.putEntry passed.1, granted := passed.2 }
      | [] => LockTable.serveFull { t with entries := t.entries.filter fun x => x.stripe != e.stripe }

/-- What a withdrawal does to the entry it left when it was the head waiter (R87). -/
def LockEntry.afterHead (e : LockEntry) (ws : List Waiter) : LockEntry × List Requester :=
  match e.mode with
  | .shared =>
    let more := sharedHead ws
    ({ e with holders := e.holders ++ more.1, waiters := more.2 }, more.1)
  | .exclusive => ({ e with waiters := ws }, [])

/-- A withdrawal (R87, R88). A requester that waits nowhere changes nothing. -/
def LockTable.withdraw (t : LockTable) (r : Requester) : LockResult :=
  match t.entries.find? fun e => e.waiters.any fun w => w.requester == r with
  | none => { table := { t with fullQueue := t.fullQueue.filter fun w => w.requester != r }, granted := [] }
  | some e =>
    let rest := e.waiters.filter fun w => w.requester != r
    match e.waiters with
    | [] => { table := t, granted := [] }
    | h :: _ =>
      if h.requester = r then
        let after := e.afterHead rest
        { table := t.putEntry after.1, granted := after.2 }
      else { table := t.putEntry { e with waiters := rest }, granted := [] }

/-- Whether a requester holds a lock. -/
def LockTable.holds (t : LockTable) (r : Requester) : Bool := t.entries.any fun e => e.holders.contains r

/-- The withdrawals of many waiters, newest first, so that none of them grants a lock to another of them
(R87, R88; log 20). -/
def LockTable.withdrawAll (t : LockTable) (gone : Requester → Bool) : LockTable :=
  { entries := t.entries.map fun e => { e with waiters := e.waiters.filter fun w => !gone w.requester },
    fullQueue := t.fullQueue.filter fun w => !gone w.requester }

/-- A lock act takes effect, and its grants are handed in order (R83). -/
def State.withLocks (s : State) (r : LockResult) : State :=
  State.laterAll (r.granted.map .granted) { s with slt := r.table }

/-- A requester asks for a lock (R81, R82). -/
def State.lock (r : Requester) (stripe : Nat) (mode : LockMode) (s : State) : State :=
  s.withLocks (s.slt.request r stripe mode)

/-- A requester gives its lock up (R84 to R86). -/
def State.unlock (r : Requester) (s : State) : State := s.withLocks (s.slt.release r)

/-- A requester gives up its wait, or its lock if it has just been granted (R87 to R89). -/
def State.giveUp (r : Requester) (s : State) : State :=
  if s.slt.holds r then s.unlock r else s.withLocks (s.slt.withdraw r)

end Sys2Proof.Machine
end

