-- ==== Sys2Proof/Machine/Rows.lean ====
section
/-! DEFINITION. How segments and jobs obtain and write the blocks of rows: lookups, READs of what misses,
and WRITEs of runs (R65, R96, R109, R123, R126). -/

namespace Sys2Proof.Machine

/-- A block that a caller's lookup missed, with its refetch note. -/
structure Miss where
  position : Nat
  row : Nat
  note : Option Way
deriving DecidableEq, Repr

/-- A caller's lookups of one round, in the order given: the blocks they supplied and those they missed. -/
def State.lookups (o : Owner) (g : Geometry) (stripe : Nat) :
    List (Nat × Nat) → State → State × List Cell × List Miss
  | [], s => (s, [], [])
  | (x, row) :: rest, s =>
    let one := s.lookup o x (g.memberBlock stripe row)
    let more := State.lookups o g stripe rest one.1
    match one.2 with
    | .hit b => (more.1, { position := x, row := row, outcome := .good b } :: more.2.1, more.2.2)
    | .miss note => (more.1, more.2.1, { position := x, row := row, note := note } :: more.2.2)

/-- The refetch note of a missed block, as its READ carries it (R65). -/
def Miss.notes (g : Geometry) (stripe : Nat) (m : Miss) : List RefetchNote :=
  match m.note with
  | some w => [{ block := g.memberBlock stripe m.row, way := w }]
  | none => []

/-- A missed block joined in front of the run that begins right after it, or as a run of its own. -/
def addMiss (g : Geometry) (stripe : Nat) (m : Miss) : List DriveCmd → List DriveCmd
  | { position := x, first := first, count := count, op := .read notes } :: rest =>
    if x = m.position ∧ first = g.memberBlock stripe m.row + 1 then
      { position := x, first := g.memberBlock stripe m.row, count := count + 1,
        op := .read (m.notes g stripe ++ notes) } :: rest
    else
      { position := m.position, first := g.memberBlock stripe m.row, count := 1,
        op := .read (m.notes g stripe) } ::
      { position := x, first := first, count := count, op := .read notes } :: rest
  | rest =>
    { position := m.position, first := g.memberBlock stripe m.row, count := 1,
      op := .read (m.notes g stripe) } :: rest

/-- The READs of missed blocks: one per run of consecutive member blocks of one position (R96, R123). -/
def readRuns (g : Geometry) (stripe : Nat) (ms : List Miss) : List DriveCmd :=
  ms.foldr (addMiss g stripe) []

/-- A block to write: where it goes, its contents, and whether it is handed for trimming once stored. -/
structure WriteItem where
  position : Nat
  row : Nat
  contents : Block
  trim : Bool
deriving DecidableEq, Repr

/-- A block to write joined in front of the run that begins right after it, or as a run of its own. -/
def addWrite (g : Geometry) (stripe : Nat) (m : WriteItem) : List DriveCmd → List DriveCmd
  | { position := x, first := first, count := count, op := .write bs fs } :: rest =>
    if x = m.position ∧ first = g.memberBlock stripe m.row + 1 then
      { position := x, first := g.memberBlock stripe m.row, count := count + 1,
        op := .write (m.contents :: bs) (m.trim :: fs) } :: rest
    else
      { position := m.position, first := g.memberBlock stripe m.row, count := 1,
        op := .write [m.contents] [m.trim] } ::
      { position := x, first := first, count := count, op := .write bs fs } :: rest
  | rest =>
    { position := m.position, first := g.memberBlock stripe m.row, count := 1,
      op := .write [m.contents] [m.trim] } :: rest

/-- The WRITEs of a list of blocks: one per run (R98, R109, R126), in the order of the list, which is by ascending
position and then row (log 11). -/
def writeRuns (g : Geometry) (stripe : Nat) (ms : List WriteItem) : List DriveCmd :=
  ms.foldr (addWrite g stripe) []

/-- The (position, row) pairs of some rows that meet a condition, by position and then by row (log 11). -/
def pairsWhere (g : Geometry) (rows : List Nat) (p : Nat → Nat → Bool) : List (Nat × Nat) :=
  (List.range g.w).flatMap fun x => (rows.filter fun row => p x row).map fun row => (x, row)

/-- Cells for blocks that a caller cannot set out for, their positions being unavailable (Table 1-8). -/
def unavailableCells (ps : List (Nat × Nat)) : List Cell :=
  ps.map fun p => { position := p.1, row := p.2, outcome := .erased .unavailable }

/-- Cells of the outcome of a READ (R54), from a row on. -/
def outcomeCells (x row : Nat) (outcomes : List BlockOutcome) : List Cell :=
  ((List.range outcomes.length).zip outcomes).map fun e =>
    { position := x, row := row + e.1, outcome := e.2 }

/-- Whether an outcome is an erasure. -/
def BlockOutcome.isErased : BlockOutcome → Bool
  | .good _ => false
  | .erased _ => true

/-- Whether a caller holds a block: it has obtained its contents (R97). -/
def heldAt (cells : List Cell) (x row : Nat) : Bool :=
  (cellAt cells x row).any fun o => !o.isErased

/-- What a row computation made: its erasure set, and every block of the row or none if it is
UNRECOVERABLE. -/
structure RowOutcome where
  erasures : RowErasures
  full : Option FullRow
deriving DecidableEq, Repr

/-- A row is handed to the PAU for reconstruction at this moment (R10, R19). -/
def State.computeRow (s : State) (g : Geometry) (stripe : Nat) (cells : List Cell) (row : Nat) : RowOutcome :=
  { erasures := s.erasureSet g stripe cells row, full := reconstruct (s.rowOf g stripe cells row) }

/-- Whether a block of a row is to be repaired: produced, with cause MEDIUM, on an available position
(R98, R107, R124). -/
def State.repairs (s : State) (stripe : Nat) (out : RowOutcome) (x : Nat) : Bool :=
  out.full.isSome && out.erasures.erased.contains (x, .medium) && s.available x stripe

/-- The blocks to repair of the rows that were computed (R98, R126), by ascending position and then row (log 11). -/
def State.repairItems (s : State) (g : Geometry) (stripe : Nat) (outs : List RowOutcome) : List WriteItem :=
  (List.range g.w).flatMap fun x =>
    (outs.filter fun o => s.repairs stripe o x).filterMap fun o =>
      o.full.map fun f =>
        { position := x, row := o.erasures.row, contents := f.onPosition g stripe x, trim := false }

end Sys2Proof.Machine
end

