-- ==== Sys2Proof/Machine/Extents.lean ====
section
/-! DEFINITION. The Extent Service Unit at work (spec/06): the rounds of read and write segments, the write
methods, and the ends of segments and requests. -/

namespace Sys2Proof.Machine

/-- The working set of a segment that has begun nothing. -/
def WorkingSet.new : WorkingSet :=
  { cells := [], rebuilding := [], round := 1, erasures := [], grant := none, received := [],
    dataTimer := false, method := none, writeSet := [] }

/-- The entry of the request table with a tag. -/
def State.request (s : State) (tag : Nat) : Option ExtentReq := s.esu.requests.find? fun r => r.tag == tag

/-- The state with the entry of r's tag replaced by r. -/
def State.putRequest (r : ExtentReq) (s : State) : State :=
  { s with esu := { requests := s.esu.requests.map fun x => if x.tag == r.tag then r else x } }

/-- An entry is given up. -/
def State.dropRequest (tag : Nat) (s : State) : State :=
  { s with esu := { requests := s.esu.requests.filter fun x => x.tag != tag } }

/-- The reply of a request that ends (R95). -/
def ExtentReq.finalReply (r : ExtentReq) (status : Status) : Frame :=
  .reply r.tag status (.extent r.blocksDone r.lostCount r.firstLost)

/-- A request ends: its entry is given up, and its reply handed behind the work that the release of its
lock set off (R95, R112). -/
def State.endRequest (r : ExtentReq) (status : Status) (s : State) : State :=
  State.later (.frame (r.finalReply status)) (s.dropRequest r.tag)

/-- The status of an ending that was pending (R95). -/
def EndPending.status : EndPending → Status
  | .cancelled => .cancelled
  | .arrayFailed => .arrayFailed

/-- The mode a request's segments ask for (R80). -/
def ExtentKind.lockMode : ExtentKind → LockMode
  | .read => .shared
  | .write => .exclusive

/-- The status of a request whose last segment has ended (R100, R111). -/
def ExtentReq.lastStatus (r : ExtentReq) : Status :=
  match r.kind with
  | .read => if r.lostCount = 0 then .ok else .mediumLost
  | .write => .ok

/-- A segment ends (R95, steps 1 and 2): its blocks are done and its lock is released. -/
def State.endSegment (r : ExtentReq) (g : Geometry) (s : State) : State :=
  let done := r.blocksDone + g.segCount r.first r.count r.segment
  let r1 := { r with blocksDone := done, state := .lockWait, work := WorkingSet.new }
  State.later (.nextSegment r.tag) ((s.putRequest r1).unlock (.extent r.tag))

/-- What remains after a segment's lock has been released (R95, step 3). -/
def State.nextSegment (tag : Nat) (s : State) : State :=
  match s.request tag, s.geom with
  | some r, some g =>
    match r.endPending with
    | some e => s.endRequest r e.status
    | none =>
      if r.segment + 1 < g.segments r.first r.count then
        let r1 := { r with segment := r.segment + 1, state := .lockWait, work := WorkingSet.new }
        (s.putRequest r1).lock (.extent tag) (r1.stripe g) r1.kind.lockMode
      else s.endRequest r r.lastStatus
  | _, _ => s

/-- One round of a segment (R96): the blocks wanted are looked up, and those that miss are read. -/
def State.segmentRound (r : ExtentReq) (g : Geometry) (wanted : List (Nat × Nat)) (s : State) : State :=
  let got := s.lookups (.segment r.tag) g (r.stripe g) wanted
  let cmds := readRuns g (r.stripe g) got.2.2
  let r1 := { r with
    outstanding := r.outstanding + cmds.length
    work := { r.work with cells := r.work.cells ++ got.2.1 } }
  let s1 := got.1.putRequest r1
  match cmds with
  | [] => s1.later (.segment r.tag)
  | _ => s1.laterAll (cmds.map (.hand (.segment r.tag)))

/-- WRITEs of a segment are handed (R98, R109); with none the segment goes on at once. -/
def State.segmentWrites (r : ExtentReq) (cmds : List DriveCmd) (s : State) : State :=
  let s1 := s.putRequest { r with outstanding := r.outstanding + cmds.length }
  match cmds with
  | [] => s1.later (.segment r.tag)
  | _ => s1.laterAll (cmds.map (.hand (.segment r.tag)))

/-! ## Reading -/

/-- Whether a touched row is plain (R96): its requested blocks lie on available positions and are not
listed. -/
def State.plainRow (s : State) (r : ExtentReq) (g : Geometry) (row : Nat) : Bool :=
  (r.positionsIn g row).all fun x =>
    s.available x (r.stripe g) && !s.lel.listed x (g.memberBlock (r.stripe g) row)

/-- A read segment is granted its lock: its first round (R96). -/
def State.startRead (r : ExtentReq) (g : Geometry) (s : State) : State :=
  let stripe := r.stripe g
  let rows := r.rows g
  let rebuilding := rows.filter fun row => !s.plainRow r g row
  let wanted := pairsWhere g rows fun x row =>
    if rebuilding.contains row then s.available x stripe else (r.positionsIn g row).contains x
  let missing := pairsWhere g rebuilding fun x _ => !s.available x stripe
  let r1 := { r with
    state := .gather
    work := { WorkingSet.new with rebuilding := rebuilding, cells := unavailableCells missing } }
  s.segmentRound r1 g wanted

/-- The second round of a segment over the blocks of some rows that it does not hold, less those it passes over
(R97, R107; log 12): each is sought anew where its position is available at this moment, and is UNAVAILABLE
elsewhere. A block that it does not obtain now either keeps the causes it has (R10). -/
def State.secondRound (r : ExtentReq) (g : Geometry) (turned : List Nat) (passed : List (Nat × Nat)) (s : State) :
    State :=
  let stripe := r.stripe g
  let sought := pairsWhere g turned fun x row => !heldAt r.work.cells x row && !passed.contains (x, row)
  let missing := sought.filter fun p => !s.available p.1 stripe
  let r1 := { r with work := { r.work with
    round := 2
    rebuilding := r.work.rebuilding ++ turned
    cells := r.work.cells ++ unavailableCells missing } }
  s.segmentRound r1 g (sought.filter fun p => s.available p.1 stripe)

/-- The plain rows of a read segment in which a requested block has become an erasure (R97). -/
def ExtentReq.turnedRows (r : ExtentReq) (g : Geometry) : List Nat :=
  (r.rows g).filter fun row =>
    !r.work.rebuilding.contains row &&
      (r.positionsIn g row).any fun x => (cellAt r.work.cells x row).any BlockOutcome.isErased

/-- Whether a read segment hands a row to the PAU (R98): it is reconstructing, or a requested block of it
is an erasure now. -/
def State.rowComputed (s : State) (r : ExtentReq) (g : Geometry) (row : Nat) : Bool :=
  r.work.rebuilding.contains row ||
    (r.positionsIn g row).any fun x => (s.supplied g (r.stripe g) r.work.cells x row).isNone

/-- The contents of a requested block: as supplied, or as produced, or none when it is lost (R98). -/
def State.blockRead (s : State) (r : ExtentReq) (g : Geometry) (outs : List RowOutcome) (b : SegBlock) :
    Option Block :=
  match s.supplied g (r.stripe g) r.work.cells b.position b.row with
  | some c => some c
  | none =>
    ((outs.find? fun o => o.erasures.row == b.row).bind fun o => o.full).map fun f =>
      f.onPosition g (r.stripe g) b.position

/-- COMPUTE and SEND of a read segment (R98, R99): rows are reconstructed, DATA frames handed, and repairs
written. -/
def State.computeRead (r : ExtentReq) (g : Geometry) (s : State) : State :=
  let stripe := r.stripe g
  let outs := ((r.rows g).filter fun row => s.rowComputed r g row).map fun row =>
    s.computeRow g stripe r.work.cells row
  let cmds := writeRuns g stripe (s.repairItems g stripe outs)
  let results := (r.blocks g).map fun b => (b, s.blockRead r g outs b)
  let lost := results.filter fun e => e.2.isNone
  let r1 := { r with
    state := .send
    lostCount := r.lostCount + lost.length
    firstLost := match r.firstLost with
      | some l => some l
      | none => lost.head?.map fun e => e.1.array
    work := { r.work with erasures := outs.map fun o => o.erasures } }
  let s1 := results.foldl (fun s e => s.handFrame (.data r.tag e.1.index e.2)) s
  s1.segmentWrites r1 cmds

/-! ## Writing -/

/-- A write segment is granted its lock (R101): its grant is recorded, its GRANT frame handed, and the data
wait timer starts. -/
def State.startWrite (r : ExtentReq) (g : Geometry) (s : State) : State :=
  let first := g.segFirst r.first r.segment
  let count := g.segCount r.first r.count r.segment
  let r1 := { r with
    state := .dataWait
    work := { WorkingSet.new with grant := some (first - r.first, count), dataTimer := true } }
  (s.putRequest r1).handFrame (.grant r.tag first count (first - r.first))

/-- Whether the current segment writes a block. -/
def ExtentReq.writes (r : ExtentReq) (g : Geometry) (x row : Nat) : Bool :=
  (r.blocks g).any fun b => b.position == x && b.row == row

/-- The new contents the host sent for a block of the current segment. -/
def ExtentReq.newBlock (r : ExtentReq) (g : Geometry) (x row : Nat) : Option Block :=
  match (r.blocks g).find? fun b => b.position == x && b.row == row with
  | some b => (r.work.received.find? fun e => e.1 == b.index).map fun e => e.2
  | none => none

/-- The write method, at the moment the data is complete (R104). -/
def State.methodOf (s : State) (r : ExtentReq) (g : Geometry) : WriteMethod :=
  let stripe := r.stripe g
  if r.fullStripe g then .full
  else if (r.blocks g).all fun b =>
      s.available b.position stripe && !s.lel.listed b.position (g.memberBlock stripe b.row) then .readModify
  else .reconstruct

/-- Whether a position holds P or Q of a stripe. -/
def Geometry.parityAt (g : Geometry) (stripe x : Nat) : Bool := x == g.posP stripe || x == g.posQ stripe

/-- The write set of a method (Table 6-2), at the moment it is fixed. -/
def State.writeSetOf (s : State) (r : ExtentReq) (g : Geometry) (m : WriteMethod) : List (Nat × Nat) :=
  let stripe := r.stripe g
  pairsWhere g (r.rows g) fun x row =>
    s.available x stripe &&
      (if g.parityAt stripe x then
        m != .readModify || !s.lel.listed x (g.memberBlock stripe row)
      else r.writes g x row)

/-- Whether P or Q of a row is in the write set. -/
def ExtentReq.parityWritten (r : ExtentReq) (g : Geometry) (row : Nat) : Bool :=
  r.work.writeSet.contains (g.posP (r.stripe g), row) || r.work.writeSet.contains (g.posQ (r.stripe g), row)

/-- The touched rows with P or Q in the write set: those that need old blocks (R106, R107). -/
def ExtentReq.parityRows (r : ExtentReq) (g : Geometry) : List Nat := (r.rows g).filter (r.parityWritten g)

/-- The old blocks a READ-MODIFY segment obtains (R106): written data, and P and Q of the write set. -/
def ExtentReq.modifyBlocks (r : ExtentReq) (g : Geometry) : List (Nat × Nat) :=
  pairsWhere g (r.parityRows g) fun x row => r.work.writeSet.contains (x, row)

/-- The untouched data blocks of the rows that need them (R107). -/
def ExtentReq.untouched (r : ExtentReq) (g : Geometry) : List (Nat × Nat) :=
  pairsWhere g (r.parityRows g) fun x row => !g.parityAt (r.stripe g) x && !r.writes g x row

/-- The first round of a RECONSTRUCT segment (R107). -/
def State.reconstructRound (r : ExtentReq) (g : Geometry) (s : State) : State :=
  let stripe := r.stripe g
  let open_ := (r.untouched g).filter fun p => (cellAt r.work.cells p.1 p.2).isNone
  let missing := open_.filter fun p => !s.available p.1 stripe
  let r1 := { r with work := { r.work with cells := r.work.cells ++ unavailableCells missing } }
  s.segmentRound r1 g (open_.filter fun p => s.available p.1 stripe)

/-- A write segment whose data is complete chooses its method and fixes its write set (R104). -/
def State.chooseMethod (r : ExtentReq) (g : Geometry) (s : State) : State :=
  let m := s.methodOf r g
  let r1 := { r with
    state := .gather
    work := { r.work with dataTimer := false, method := some m, writeSet := s.writeSetOf r g m } }
  match m with
  | .full => (s.putRequest r1).later (.segment r.tag)
  | .readModify => s.segmentRound r1 g (r1.modifyBlocks g)
  | .reconstruct => s.reconstructRound r1 g

/-- The rows in which a needed untouched block is an erasure now (R107). -/
def State.unsuppliedRows (s : State) (r : ExtentReq) (g : Geometry) : List Nat :=
  (r.parityRows g).filter fun row =>
    (r.untouched g).any fun p => p.2 == row && (s.supplied g (r.stripe g) r.work.cells p.1 row).isNone

/-- The old contents of an untouched block: as supplied or as produced (R107). -/
def State.oldBlock (s : State) (r : ExtentReq) (g : Geometry) (outs : List RowOutcome) (x row : Nat) :
    Option Block :=
  match s.supplied g (r.stripe g) r.work.cells x row with
  | some b => some b
  | none =>
    ((outs.find? fun o => o.erasures.row == row).bind fun o => o.full).map fun f =>
      f.onPosition g (r.stripe g) x

/-- The data blocks of a row as it will stand (R105, R107): new where written, else old. -/
def State.rowToWrite (s : State) (r : ExtentReq) (g : Geometry) (outs : List RowOutcome) (row : Nat) :
    List (Option Block) :=
  (List.range g.d).map fun d =>
    let x := g.posData (r.stripe g) d
    match r.newBlock g x row with
    | some b => some b
    | none => s.oldBlock r g outs x row

/-- New P and Q of a row by delta (R106, R18): each written block's change in ascending data index. -/
def State.deltaRow (s : State) (r : ExtentReq) (g : Geometry) (row : Nat) : Block × Block :=
  let stripe := r.stripe g
  let old := fun x => (s.supplied g stripe r.work.cells x row).getD Block.zero
  (List.range g.d).foldl
    (fun pq d =>
      let x := g.posData stripe d
      match r.newBlock g x row with
      | some b => (deltaP pq.1 (old x) b, deltaQ d pq.2 (old x) b)
      | none => pq)
    (old (g.posP stripe), old (g.posQ stripe))

/-- P and Q of a row of the write set (R105 to R107). -/
def State.parityToWrite (s : State) (r : ExtentReq) (g : Geometry) (outs : List RowOutcome) (row : Nat) :
    Block × Block :=
  match r.work.method with
  | some .readModify => s.deltaRow r g row
  | _ => encode ((s.rowToWrite r g outs row).map fun b => b.getD Block.zero)

/-- The block that a position of the write set receives in a row. -/
def State.contentsToWrite (s : State) (r : ExtentReq) (g : Geometry) (outs : List RowOutcome) (x row : Nat) :
    Block :=
  let stripe := r.stripe g
  if x = g.posP stripe then (s.parityToWrite r g outs row).1
  else if x = g.posQ stripe then (s.parityToWrite r g outs row).2
  else (r.newBlock g x row).getD Block.zero

/-- Whether a touched row needs an untouched block that cannot be produced (R108). -/
def State.rowLost (s : State) (r : ExtentReq) (g : Geometry) (outs : List RowOutcome) (row : Nat) : Bool :=
  (r.untouched g).any fun p => p.2 == row && (s.oldBlock r g outs p.1 row).isNone

/-- The blocks a write segment writes: its write set, and the untouched blocks it repairs (R107, R109), by ascending
position and then row (log 11). -/
def State.itemsToWrite (s : State) (r : ExtentReq) (g : Geometry) (outs : List RowOutcome) : List WriteItem :=
  (List.range g.w).flatMap fun x =>
    (r.rows g).filterMap fun row =>
      if r.work.writeSet.contains (x, row) then
        some { position := x, row := row, contents := s.contentsToWrite r g outs x row, trim := true }
      else if (r.untouched g).contains (x, row) then
        match outs.find? fun o => o.erasures.row == row with
        | some o =>
          if s.repairs (r.stripe g) o x then
            o.full.map fun f =>
              { position := x, row := row, contents := f.onPosition g (r.stripe g) x, trim := false }
          else none
        | none => none
      else none

/-- A segment that cannot produce a block it needs writes nothing, and its request ends MEDIUM-LOST
(R108). -/
def State.endUnwritten (r : ExtentReq) (g : Geometry) (s : State) : State :=
  let r1 := { r with
    lostCount := r.lostCount + g.segCount r.first r.count r.segment
    firstLost := some (r.firstLost.getD (g.segFirst r.first r.segment)) }
  (s.unlock (.extent r.tag)).endRequest r1 .mediumLost

/-- The rows that a write segment hands to the PAU: every row of a FULL segment (R105), else those with P or Q in
the write set (R106, R107). -/
def ExtentReq.rowsHanded (r : ExtentReq) (g : Geometry) : List Nat :=
  match r.work.method with
  | some .full => r.rows g
  | _ => r.parityRows g

/-- A write segment forms the erasure set of each row that it hands to the PAU: that of the old row, as the segment
has obtained it (R10, R106; log 25). -/
def State.formErasures (s : State) (r : ExtentReq) (g : Geometry) : ExtentReq :=
  { r with work := { r.work with
    erasures := (r.rowsHanded g).map fun row => s.erasureSet g (r.stripe g) r.work.cells row } }

/-- COMPUTE of a write segment and the handing of its WRITEs (R105 to R109). -/
def State.computeWrite (r : ExtentReq) (g : Geometry) (s : State) : State :=
  let stripe := r.stripe g
  let outs :=
    match r.work.method with
    | some .reconstruct => (s.unsuppliedRows r g).map fun row => s.computeRow g stripe r.work.cells row
    | _ => []
  let r1 := s.formErasures r g
  if r.work.method == some .reconstruct && (r.parityRows g).any fun row => s.rowLost r g outs row then
    s.endUnwritten r1 g
  else
    s.segmentWrites { r1 with state := .writeOut } (writeRuns g stripe (s.itemsToWrite r g outs))

/-- A READ-MODIFY segment whose READs have ended (R106): it computes, or falls back to RECONSTRUCT. -/
def State.afterModify (r : ExtentReq) (g : Geometry) (s : State) : State :=
  if (r.modifyBlocks g).all fun p => (s.supplied g (r.stripe g) r.work.cells p.1 p.2).isSome then
    s.computeWrite r g
  else
    let r1 := s.formErasures r g
    s.reconstructRound
      { r1 with work := { r1.work with
        method := some .reconstruct, writeSet := s.writeSetOf r g .reconstruct } } g

/-- A RECONSTRUCT segment whose READs have ended (R107). Its second round is for every other block of the old row,
the untouched ones having had the first. -/
def State.afterReconstruct (r : ExtentReq) (g : Geometry) (s : State) : State :=
  if r.work.round = 1 then
    match s.unsuppliedRows r g with
    | [] => s.computeWrite r g
    | turned => s.secondRound r g turned (r.untouched g)
  else s.computeWrite r g

/-- A read segment whose READs have ended (R97). -/
def State.afterRead (r : ExtentReq) (g : Geometry) (s : State) : State :=
  if r.work.round = 1 then
    match r.turnedRows g with
    | [] => s.computeRead r g
    | turned => s.secondRound r g turned []
  else s.computeRead r g

/-- The ending of a request that waited for its commands with ARRAY-FAILED pending (R115). A read segment
that had reached SEND counts its blocks. -/
def State.endArrayFailed (r : ExtentReq) (g : Geometry) (s : State) : State :=
  let r1 :=
    if r.state = .send then { r with blocksDone := r.blocksDone + g.segCount r.first r.count r.segment } else r
  (s.unlock (.extent r.tag)).endRequest r1 .arrayFailed

/-- An extent request goes on when nothing of its phase is outstanding. -/
def State.advanceRequest (tag : Nat) (s : State) : State :=
  match s.request tag, s.geom with
  | some r, some g =>
    if r.outstanding ≠ 0 then s
    else
      match r.state with
      | .lockWait => s
      | .dataWait => s
      | _ =>
        if r.endPending = some .arrayFailed then s.endArrayFailed r g
        else
          match r.state, r.kind, r.work.method with
          | .gather, .read, _ => s.afterRead r g
          | .gather, .write, some .readModify => s.afterModify r g
          | .gather, .write, some .reconstruct => s.afterReconstruct r g
          | .gather, .write, _ => s.computeWrite r g
          | .writeOut, _, _ => s.endSegment r g
          | .send, _, _ => s.endSegment r g
          | _, _, _ => s
  | _, _ => s

/-- A grant reaches an extent request (R83, R96, R101). -/
def State.grantRequest (tag : Nat) (s : State) : State :=
  match s.request tag, s.geom with
  | some r, some g =>
    if r.state = .lockWait then
      match r.kind with
      | .read => s.startRead r g
      | .write => s.startWrite r g
    else s
  | _, _ => s

/-- A READ's outcome reaches an extent request (R54, R96); one that is ending ARRAY-FAILED discards it
(R115). -/
def State.segmentRead (tag : Nat) (cmd : DriveCmd) (outcomes : List BlockOutcome) (s : State) : State :=
  match s.request tag, s.geom with
  | some r, some g =>
    let cells :=
      if r.endPending = some .arrayFailed then r.work.cells
      else r.work.cells ++ outcomeCells cmd.position (g.memberRow cmd.first) outcomes
    let r1 := { r with outstanding := r.outstanding - 1, work := { r.work with cells := cells } }
    State.later (.segment tag) (s.putRequest r1)
  | _, _ => s

/-- A WRITE of an extent request has ended (R109, R99). -/
def State.segmentWritten (tag : Nat) (s : State) : State :=
  match s.request tag with
  | some r => State.later (.segment tag) (s.putRequest { r with outstanding := r.outstanding - 1 })
  | none => s

/-- What the failure of the array does to one request, by its state (R115). -/
def State.failRequest (r : ExtentReq) (s : State) : State :=
  match r.state with
  | .lockWait => (s.giveUp (.extent r.tag)).endRequest r .arrayFailed
  | .dataWait => (s.unlock (.extent r.tag)).endRequest r .arrayFailed
  | _ => State.later (.segment r.tag) (s.putRequest { r with endPending := some .arrayFailed })

/-- Whether a requester is an extent request that waits for its lock. -/
def State.waitsForLock (s : State) : Requester → Bool
  | .extent tag => (s.request tag).any fun r => r.state == .lockWait
  | .job _ => false

/-- The array has become FAILED: the ESU acts on each request of its table (R115). The waiters are withdrawn
together, so that none of them is granted on the way (log 20). -/
def State.failRequests (s : State) : State :=
  let s1 : State := { s with slt := s.slt.withdrawAll s.waitsForLock }
  s.esu.requests.foldl (fun s r => s.failRequest r) s1

end Sys2Proof.Machine
end

