-- ==== Sys2Proof/Machine/Operands.lean ====
section
/-! DEFINITION. How the operands of requests are read: codes (Table 11-3), channels, flags, and the
values that the owning rules hold to a range. -/

namespace Sys2Proof.Machine

/-! ## Request codes (Table 11-3) -/

def codeIdentify : Nat := 0x01
def codeDefineArray : Nat := 0x10
def codeFailMember : Nat := 0x11
def codeAssignSpare : Nat := 0x12
def codeReturnMember : Nat := 0x13
def codeGuard : Nat := 0x18
def codeStartRebuild : Nat := 0x20
def codeAddTarget : Nat := 0x21
def codePauseRebuild : Nat := 0x22
def codeContinueRebuild : Nat := 0x23
def codeAbortRebuild : Nat := 0x24
def codeResumeRebuild : Nat := 0x25
def codeReadExtent : Nat := 0x30
def codeWriteExtent : Nat := 0x31
def codeCancel : Nat := 0x32
def codeSetShare : Nat := 0x40
def codeSetChannel : Nat := 0x41
def codeResetChannel : Nat := 0x42
def codeCacheMode : Nat := 0x43
def codeListLost : Nat := 0x50
def codeLoadLost : Nat := 0x51
def codeDropLost : Nat := 0x52
def codeSetLostLimit : Nat := 0x53
def codeReadCheckpoint : Nat := 0x58
def codeEraseCheckpoints : Nat := 0x59
def codeSetInterval : Nat := 0x5A
def codeQueryArray : Nat := 0x60
def codeQueryPass : Nat := 0x61
def codeQueryChannel : Nat := 0x62
def codeQueryBank : Nat := 0x63
def codeQueryStore : Nat := 0x64
def codeQueryAttention : Nat := 0x65
def codeClearBank : Nat := 0x70
def codeSetThreshold : Nat := 0x71
def codeClearAttention : Nat := 0x72
def codeRestart : Nat := 0x7F

/-- The codes of Table 11-3. -/
def requestCodes : List Nat :=
  [codeIdentify, codeDefineArray, codeFailMember, codeAssignSpare, codeReturnMember, codeGuard,
   codeStartRebuild, codeAddTarget, codePauseRebuild, codeContinueRebuild, codeAbortRebuild,
   codeResumeRebuild, codeReadExtent, codeWriteExtent, codeCancel, codeSetShare, codeSetChannel,
   codeResetChannel, codeCacheMode, codeListLost, codeLoadLost, codeDropLost, codeSetLostLimit,
   codeReadCheckpoint, codeEraseCheckpoints, codeSetInterval, codeQueryArray, codeQueryPass,
   codeQueryChannel, codeQueryBank, codeQueryStore, codeQueryAttention, codeClearBank,
   codeSetThreshold, codeClearAttention, codeRestart]

/-- The guarded requests that name a position (R190). -/
def positionCodes : List Nat := [codeFailMember, codeAssignSpare, codeReturnMember, codeDropLost]

/-- The seven requests a GUARD may name (R190). -/
def guardableCodes : List Nat :=
  [codeDefineArray, codeFailMember, codeAssignSpare, codeReturnMember, codeAbortRebuild,
   codeEraseCheckpoints, codeDropLost]

/-- The QUERY requests (Table 11-3). -/
def queryCodes : List Nat :=
  [codeQueryArray, codeQueryPass, codeQueryChannel, codeQueryBank, codeQueryStore, codeQueryAttention]

/-! ## Values -/

/-- A channel number of a request, where it names one of the twelve channels. -/
def channelOf (c : Nat) : Option Chan := if h : c < 12 then some ⟨c, h⟩ else none

/-- A bank number of a request, where it names one of the fifteen banks. -/
def bankOf (b : Nat) : Option (Fin 15) := if h : b < 15 then some ⟨b, h⟩ else none

/-- A value held to a range. -/
def clamp (low high v : Nat) : Nat := if v < low then low else if high < v then high else v

/-- The rebuild share a SET-SHARE value gives (R51). -/
def shareOf (v : Nat) : Nat := clamp 1 4 v
/-- The timeout a SET-CHANNEL value gives (R58). -/
def timeoutOf (v : Nat) : Nat := clamp Config.minTimeout Config.maxTimeout v
/-- The checkpoint interval a SET-INTERVAL value gives (R171). -/
def intervalOf (v : Nat) : Nat := clamp 1 Config.maxInterval v
/-- The limit a SET-LOST-LIMIT value gives with a list of count entries (R155). -/
def lostLimitOf (count v : Nat) : Nat := max (clamp Config.minLostLimit Config.maxLostLimit v) count
/-- The desired count a SET-THRESHOLD value gives (R177). -/
def thresholdOf (n : Nat) : Nat := min n Config.maxCounter

/-- An auto-fail enable byte (R58): 0 and 1 as they read, any other value free (log 7). -/
def enableOf (v : Nat) : Bool := if v = 0 then false else if v = 1 then true else Config.enableOfByte v

/-- The pass number that follows another (R130). -/
def nextPassNumber (n : Nat) : Nat := if n = 4294967295 then 1 else n + 1

/-- A counter of 32 bits that holds at its highest value (R117). -/
def saturate (n : Nat) : Nat := min n 4294967295

end Sys2Proof.Machine
end

