-- ==== Sys2Proof/Machine/Store.lean ====
section
/-! DEFINITION. The Checkpoint Store (spec/09): taking records, slot programs, erase cycles and the scan. -/

namespace Sys2Proof.Machine

/-- The marker of a WRITTEN slot (R158). -/
def writtenMarker : Byte := 0x5A

/-- What a slot of the nonvolatile array is (R158). -/
def NvSlot.status (x : NvSlot) : SlotStatus :=
  if x.marker = writtenMarker then .written
  else if x.body = .erased ∧ x.marker = 0xFF then .blank
  else .torn

/-- The highest slot index that meets a condition. -/
def highestSlot (p : Fin 64 → Bool) : Option (Fin 64) := (List.finRange 64).reverse.find? p

/-- The latest slot (R159): none while RETIRED. -/
def CheckpointStore.latestSlot (c : CheckpointStore) : Option (Fin 64) :=
  match c.classification with
  | .retired => none
  | .valid => highestSlot fun i => c.slotMap.get i == .written

/-- The next free slot (R159, R160): the slot after the highest that is not BLANK; none while RETIRED. -/
def CheckpointStore.nextFree (c : CheckpointStore) : Option (Fin 64) :=
  match c.classification with
  | .retired => none
  | .valid =>
    match highestSlot fun i => c.slotMap.get i != .blank with
    | none => some 0
    | some i => if h : i.val + 1 < 64 then some ⟨i.val + 1, h⟩ else none

/-- The latest record and its slot (R161). -/
def CheckpointStore.latest (c : CheckpointStore) : Option (Fin 64 × CheckpointRecord) :=
  match c.latestSlot with
  | none => none
  | some i =>
    match (c.nv.slots.get i).body with
    | .record r => some (i, r)
    | _ => none

/-- The state with the Checkpoint Store replaced. -/
def State.putStore (s : State) (c : CheckpointStore) : State := { s with cps := c }

/-- The store rests in READY or FAULTED, or scans if a restart's scan is due (R160, R172). -/
def CheckpointStore.rest (c : CheckpointStore) (state : StoreState) : CheckpointStore :=
  { c with state := if c.rescan then .scanning else state, op := .none, rescan := false }

/-- The store enters FAULTED (R164, R166, R167): the pending record is discarded and STORE-FAULT latched. -/
def State.storeFault (s : State) : State :=
  State.latch .storeFault (s.putStore { s.cps.rest .faulted with pendingRecord := none })

/-- A slot program begins (R163). -/
def CheckpointStore.program (c : CheckpointStore) (i : Fin 64) (r : CheckpointRecord) : CheckpointStore :=
  { c with state := .programming, op := .program i r }

/-- An erase cycle begins with step 1 (R165). -/
def CheckpointStore.beginErase (c : CheckpointStore) (answers : Option Nat) : CheckpointStore :=
  { c with state := .erasing, op := .erase .retireCell answers }

/-- An error of the store (Table 10-2). -/
def storeError (code : ErrorCode) (uncorrected : Bool) (slot : Option Nat) (kind : ErrorKind)
    (number : Option Nat) : ErrorFields :=
  { code := code, uncorrected := uncorrected, block := slot, count := 0, kind := some kind,
    owner := number.map .passNumber }

/-- A record is dropped because the store is worn (R167). -/
def State.wornDrop (r : CheckpointRecord) (s : State) : State :=
  let s1 := s.takeError storeBank (storeError .worn true none .slotProgram (some r.number))
  State.storeFault (s1.putStore { s1.cps with status := .worn })

/-- A record begins a store operation of its own (R162, R163): into the next free slot, else by an erase
cycle, else it is dropped. -/
def State.beginRecord (r : CheckpointRecord) (s : State) : State :=
  match s.cps.nextFree with
  | some i => s.putStore ({ s.cps with status := .normal }.program i r)
  | none =>
    if s.cps.wornFlag then s.wornDrop r
    else s.putStore ({ s.cps with status := .normal, pendingRecord := some r }.beginErase none)

/-- The Rebuild Controller hands a record (R162). No record reaches a store that is SCANNING (R160). -/
def State.giveRecord (r : CheckpointRecord) (s : State) : State :=
  match s.cps.state with
  | .ready => s.beginRecord r
  | .programming => s.putStore { s.cps with pendingRecord := some r }
  | .erasing => s.putStore { s.cps with pendingRecord := some r }
  | .faulted => s
  | .scanning => s

/-- What follows a store operation that ended well (R163): the pending record, or READY. -/
def State.servePending (s : State) : State :=
  match s.cps.pendingRecord with
  | some r => State.beginRecord r (s.putStore { s.cps with pendingRecord := none })
  | none => s.putStore (s.cps.rest .ready)

/-- A slot program ends GOOD (R163). -/
def State.programGood (i : Fin 64) (r : CheckpointRecord) (s : State) : State :=
  let nv := { s.cps.nv with slots := s.cps.nv.slots.set i { body := .record r, marker := writtenMarker } }
  State.servePending
    (s.putStore { s.cps with nv := nv, slotMap := s.cps.slotMap.set i .written, errorRun := 0 })

/-- The store after a slot's program has failed, before the error is handed (R164, step 1). -/
def CheckpointStore.torn (c : CheckpointStore) (i : Fin 64) : CheckpointStore :=
  { c with
    nv := { c.nv with slots := c.nv.slots.set i { body := .partly, marker := 0xFF } }
    slotMap := c.slotMap.set i .torn }

/-- Whether a failed program leaves its record unprogrammed or the store FAULTED (Table 10-2, PROGRAM). -/
def CheckpointStore.programLost (c : CheckpointStore) : Bool :=
  decide (2 ≤ c.errorRun + 1) ||
    (c.nextFree.isNone && (c.wornFlag || c.pendingRecord.isSome))

/-- The erase cycle that a failed program of slot 63 sets off (R164, R165). With a newer record pending the failing
one is given up, and the cycle is a store operation of its own, which begins NORMAL (R159). Without one the failing
record waits for slot 0, and the cycle belongs to its own store operation, which keeps PROGRAM-ERROR (log 24). -/
def CheckpointStore.eraseAfterError (c : CheckpointStore) (r : CheckpointRecord) : CheckpointStore :=
  match c.pendingRecord with
  | some _ => { c with status := .normal }.beginErase none
  | none => { c with pendingRecord := some r }.beginErase none

/-- A slot program ends in error (R164). A record that is pending when the failing record is dropped by a worn
store is discarded with it, and is not logged (log 24). -/
def State.programFailed (i : Fin 64) (r : CheckpointRecord) (s : State) : State :=
  let c := s.cps.torn i
  let s1 := State.takeError storeBank
    (storeError .program c.programLost (some i.val) .slotProgram (some r.number)) (s.putStore c)
  let s2 := s1.putStore { s1.cps with status := .programError, errorRun := s1.cps.errorRun + 1 }
  if 2 ≤ s2.cps.errorRun then s2.storeFault
  else
    match s2.cps.nextFree with
    | some j => s2.putStore (s2.cps.program j r)
    | none =>
      if s2.cps.wornFlag then s2.wornDrop r else s2.putStore (s2.cps.eraseAfterError r)

/-- A slot program's end is reported (R163, R164); one that is not under way has been abandoned. -/
def State.slotProgramEnd (slot : Nat) (ok : Bool) (s : State) : State :=
  match s.cps.op with
  | .program i r =>
    if i.val = slot then (if ok then s.programGood i r else s.programFailed i r) else s
  | _ => s

/-- An erase cycle stops at a step that fails (R166): cells is how the nonvolatile cells then read. -/
def State.eraseFailed (retire opening : Byte) (answers : Option Nat) (s : State) : State :=
  let s1 := State.takeError storeBank (storeError .erase true none .eraseCycle none)
    (s.putStore { s.cps with nv := { s.cps.nv with retireCell := retire, openCell := opening } })
  let s2 := State.storeFault (s1.putStore { s1.cps with status := .eraseError })
  match answers with
  | some tag => s2.refuse tag .storeFault
  | none => s2

/-- How the retire cell reads after a program of it that did not end GOOD: a cell that was already
programmed stays as it reads (R166, R172; log 9). -/
def retireAfter (before left : Byte) : Byte := if before = 0xFF then left else before

/-- How the two cells read after an erase that did not end GOOD: the retire cell at 00H, or both at FFH
(R172; log 9). -/
def cellsAfterErase (left : CellsLeft) : Byte × Byte :=
  if left.retire = 0xFF then (0xFF, 0xFF) else (0x00, left.opening)

/-- How the open cell reads after a program of it that failed: not A5H (R166: RETIRED at the next scan). -/
def openAfter (left : Byte) : Byte := if left = 0xA5 then 0xFF else left

/-- A step of an erase cycle fails (R166). -/
def State.eraseStepFailed (step : EraseStep) (answers : Option Nat) (left : CellsLeft) (s : State) : State :=
  match step with
  | .retireCell => s.eraseFailed (retireAfter s.cps.nv.retireCell left.retire) s.cps.nv.openCell answers
  | .area => s.eraseFailed (cellsAfterErase left).1 (cellsAfterErase left).2 answers
  | .openCell => s.eraseFailed s.cps.nv.retireCell (openAfter left.opening) answers

/-- Step 1 of an erase cycle ends GOOD (R165). -/
def State.retireCellGood (answers : Option Nat) (s : State) : State :=
  s.putStore { s.cps with nv := { s.cps.nv with retireCell := 0x00 }, op := .erase .area answers }

/-- The erase area with every byte at FFH (R158). -/
def NvArray.areaErased (nv : NvArray) : NvArray :=
  { nv with slots := Vec.replicate 64 NvSlot.erased, retireCell := 0xFF, openCell := 0xFF }

/-- Step 2 of an erase cycle ends GOOD (R165): from here the store has no latest record. -/
def State.areaGood (answers : Option Nat) (s : State) : State :=
  s.putStore { s.cps with
    nv := s.cps.nv.areaErased, slotMap := Vec.replicate 64 .blank, op := .erase .openCell answers }

/-- The store after steps 4 and 5 of an erase cycle (R165), the pending record apart. -/
def CheckpointStore.opened (c : CheckpointStore) : CheckpointStore :=
  { c with
    nv := { c.nv with openCell := 0xA5, eraseCount := c.nv.eraseCount + 1 }
    wornFlag := c.wornFlag || c.nv.eraseCount + 1 == Config.eraseLimit
    classification := .valid, slotMap := Vec.replicate 64 .blank, errorRun := 0 }

/-- Step 3 of an erase cycle ends GOOD, and steps 4 and 5 follow (R165). The request that began the cycle
is answered (R170); a pending record goes to slot 0 in the same operation. -/
def State.openCellGood (answers : Option Nat) (s : State) : State :=
  let c := s.cps.opened
  let s1 :=
    match c.pendingRecord with
    | some r => s.putStore ({ c with pendingRecord := none }.program 0 r)
    | none => s.putStore (c.rest .ready)
  match answers with
  | some tag => s1.replyOk tag (.eraseCount c.nv.eraseCount)
  | none => s1

/-- The end of a step of an erase cycle is reported (R165, R166); a step that is not under way is none. -/
def State.eraseStepEnd (step : EraseStep) (ok : Bool) (left : CellsLeft) (s : State) : State :=
  match s.cps.op with
  | .erase now answers =>
    if now = step then
      if ok then
        match step with
        | .retireCell => s.retireCellGood answers
        | .area => s.areaGood answers
        | .openCell => s.openCellGood answers
      else s.eraseStepFailed step answers left
    else s
  | _ => s

/-- The timeout of the step of an erase cycle under way passes (R166). -/
def State.eraseStepTimeout (left : CellsLeft) (s : State) : State :=
  match s.cps.op with
  | .erase now answers => s.eraseStepFailed now answers left
  | _ => s

/-- The classification that the two cells give (R160). -/
def NvArray.classify (nv : NvArray) : Classification :=
  if nv.retireCell = 0xFF ∧ nv.openCell = 0xA5 then .valid else .retired

/-- The store after its scan (R160). The slot map of a RETIRED store is not read. -/
def CheckpointStore.scanned (c : CheckpointStore) : CheckpointStore :=
  { c with
    state := .ready
    classification := c.nv.classify
    wornFlag := decide (c.nv.eraseCount = Config.eraseLimit)
    slotMap := if c.nv.classify = .valid then c.nv.slots.map NvSlot.status else c.slotMap
    errorRun := 0, pendingRecord := none }

/-- The scan ends, and the ALI takes frames (R160, R194, R195). -/
def State.scanEnd (s : State) : State :=
  if s.cps.state = .scanning then
    { s with cps := s.cps.scanned, ali := { s.ali with taking := true } }
  else s

/-! ## What power leaves of an operation that it cuts short (R172) -/

/-- The nonvolatile array after power was lost during an operation. -/
def NvArray.afterPowerLoss (nv : NvArray) (op : StoreOp) (left : PowerLeft) : NvArray :=
  match op with
  | .none => nv
  | .program i _ =>
    if left.anyByte then { nv with slots := nv.slots.set i { body := .partly, marker := 0xFF } } else nv
  | .erase .retireCell _ => { nv with retireCell := retireAfter nv.retireCell left.cells.retire }
  | .erase .area _ =>
    { nv with retireCell := (cellsAfterErase left.cells).1, openCell := (cellsAfterErase left.cells).2 }
  | .erase .openCell _ =>
    { nv with
      openCell := left.cells.opening
      eraseCount :=
        if left.cells.opening = 0xA5 ∧ left.countRose then nv.eraseCount + 1 else nv.eraseCount }

/-- What a restart leaves of the store (R172): an operation under way is finished, a reply owed for it is
not sent, and the scan follows. -/
def CheckpointStore.restarted (c : CheckpointStore) : CheckpointStore :=
  match c.op with
  | .none => { c with state := .scanning, rescan := false }
  | .program i r => { c with op := .program i r, rescan := true }
  | .erase step _ => { c with op := .erase step none, rescan := true }

end Sys2Proof.Machine
end

