-- ==== Sys2Proof/Machine/Passes.lean ====
section
/-! DEFINITION. The Rebuild Controller at work (spec/07): targets, jobs, the frontier, the records it hands,
and the ends of passes. -/

namespace Sys2Proof.Machine

/-- The state with the pass record replaced. -/
def State.putPass (p : PassRecord) (s : State) : State := { s with rbc := p }

/-- Whether a pass is in progress and not stopping. -/
def PassState.working : PassState → Bool
  | .running => true
  | .pausing => true
  | .paused => true
  | .idle => false
  | .stopping => false

/-- A checkpoint record of a list of targets and a result, composed now (R143, Table 9-1). -/
def State.composeRecord (s : State) (g : Geometry) (targets : List Target) (result : PassResult) :
    CheckpointRecord :=
  { number := s.rbc.number, geom := g, targets := targets, f := s.rbc.f, e := s.rbc.e, result := result }

/-- A record is handed to the Checkpoint Store (R143, R162). -/
def State.handRecord (targets : List Target) (result : PassResult) (s : State) : State :=
  match s.geom with
  | some g => s.giveRecord (s.composeRecord g targets result)
  | none => s

/-- A record of the pass as it stands, with result NONE (R143). -/
def State.handProgress (s : State) : State := s.handRecord s.rbc.targets .none

/-! ## Targets -/

/-- A FAILED position becomes REBUILDING on its spare (R37), with no buffer lines (R72). -/
def State.rebuildPosition (x : Nat) (s : State) : State :=
  match s.table.position x with
  | some p =>
    State.invalidatePosition x
      { s with
        table := s.table.setPosition x { p with state := .rebuilding, channel := p.spare, spare := none } }
  | none => s

/-- Several positions are taken as targets (R37). -/
def State.rebuildPositions (xs : List Nat) (s : State) : State := xs.foldl (fun s x => s.rebuildPosition x) s

/-- A REBUILDING position turns IN-SERVICE on its channel (R37, R128). -/
def State.finishPosition (x : Nat) (s : State) : State :=
  match s.table.position x with
  | some p => { s with table := s.table.setPosition x { p with state := .inService, cause := none } }
  | none => s

/-- A REBUILDING position returns to FAILED with its channel as its spare (R37), and its buffer lines are
invalidated (R72). -/
def State.returnPosition (x : Nat) (s : State) : State :=
  match s.table.position x with
  | some p =>
    State.invalidatePosition x
      { s with table := s.table.setPosition x { p with state := .failed, channel := none, spare := p.channel } }
  | none => s

/-- Whether a target is ACTIVE. -/
def Target.active (t : Target) : Bool := t.state == .active

/-- The pass position after a target's range (R119). -/
def Target.stop (stripes : Nat) (t : Target) : Nat := t.start + stripes

/-- The ACTIVE targets. -/
def PassRecord.active (p : PassRecord) : List Target := p.targets.filter Target.active

/-- The end position after a loss (R119): the larger of N and the largest end of an ACTIVE target. -/
def PassRecord.endAfterLoss (p : PassRecord) (stripes : Nat) : Nat :=
  ((p.active.map (Target.stop stripes)).foldl max p.n)

/-- The positions of the target set of a pass position (R119), ascending. -/
def PassRecord.targetSet (p : PassRecord) (g : Geometry) (k : Nat) : List Nat :=
  (List.range g.w).filter fun x =>
    p.active.any fun t => t.position == x && decide (t.start ≤ k) && decide (k < t.stop g.s)

/-- The positions of a job's target set that are still ACTIVE targets. -/
def PassRecord.activeOf (p : PassRecord) (j : Job) : List Nat :=
  j.targets.filter fun x => p.targets.any fun t => t.position == x && t.active

/-! ## Jobs -/

/-- The job of a pass position. -/
def State.jobOf (s : State) (k : Nat) : Option Job := s.rbc.window.find? fun j => j.k == k

/-- The state with the job of j's pass position replaced by j. -/
def State.putJob (j : Job) (s : State) : State :=
  s.putPass { s.rbc with window := s.rbc.window.map fun x => if x.k == j.k then j else x }

/-- Whether a job has ended. -/
def JobState.ended : JobState → Bool
  | .complete => true
  | .failed => true
  | .locking => false
  | .reading => false
  | .computing => false
  | .writing => false

/-- A job becomes FAILED and releases its lock; a STOPPING pass may have drained by it (R125, R139). -/
def State.jobFails (j : Job) (s : State) : State :=
  State.later .drained (State.unlock (.job j.k) (s.putJob { j with state := .failed }))

/-- A job becomes COMPLETE and releases its lock; then the frontier may advance (R127). -/
def State.jobCompletes (j : Job) (s : State) : State :=
  State.later .frontier (State.unlock (.job j.k) (s.putJob { j with state := .complete }))

/-- The record of a job that starts (R121, R122). -/
def PassRecord.newJob (p : PassRecord) (g : Geometry) : Job :=
  { k := p.n, stripe := p.n % g.s, targets := p.targetSet g p.n, state := .locking, cells := [],
    erasures := [], outstanding := 0, cutShort := false }

/-- Whether a job may start (R122). -/
def PassRecord.mayStart (p : PassRecord) : Bool :=
  p.state == .running && decide (p.n - p.f < Config.windowJobs) && decide (p.n < p.e)

/-- A job starts and asks for its stripe's lock (R122). -/
def State.startJob (g : Geometry) (s : State) : State :=
  let j := s.rbc.newJob g
  State.lock (.job j.k) j.stripe .shared
    (s.putPass { s.rbc with n := s.rbc.n + 1, window := s.rbc.window ++ [j] })

/-- As many jobs start as R122 allows; the window holds no more than eight. -/
def State.startJobsUpTo (g : Geometry) : Nat → State → State
  | 0, s => s
  | n + 1, s => if s.rbc.mayStart then State.startJobsUpTo g n (s.startJob g) else s

/-- Jobs start (R122). -/
def State.startJobs (s : State) : State :=
  match s.geom with
  | some g => s.startJobsUpTo g Config.windowJobs
  | none => s

/-- A job goes on with commands it hands, or at once if it has none to hand. -/
def State.jobHands (j : Job) (cmds : List DriveCmd) (s : State) : State :=
  let s1 := s.putJob { j with outstanding := j.outstanding + cmds.length }
  match cmds with
  | [] => s1.later (.job j.k)
  | _ => s1.laterAll (cmds.map (.hand (.job j.k)))

/-- Whether a job reads a position (R123): not a target of its set, and available for its stripe now. -/
def State.jobReads (s : State) (j : Job) (x : Nat) : Bool := !j.targets.contains x && s.available x j.stripe

/-- A job that holds its lock enters READING (R123). -/
def State.startReading (j : Job) (g : Geometry) (s : State) : State :=
  let rows := List.range g.k
  let got := s.lookups (.job j.k) g j.stripe (pairsWhere g rows fun x _ => s.jobReads j x)
  let missing := pairsWhere g rows fun x _ => !s.jobReads j x
  State.jobHands { j with state := .reading, cells := unavailableCells missing ++ got.2.1 }
    (readRuns g j.stripe got.2.2) got.1

/-- A grant reaches a job (R83, R123). -/
def State.grantJob (k : Nat) (s : State) : State :=
  match s.jobOf k, s.geom with
  | some j, some g => if j.state = .locking then s.startReading j g else s
  | _, _ => s

/-- What computing the rows of a job has made so far: the rows computed, and whether the Lost Extent List
has refused an addition. -/
structure JobRows where
  outs : List RowOutcome
  refused : Bool
deriving DecidableEq, Repr

/-- The additions of an unrecoverable row, in ascending target position, up to a refusal (R125, R149). -/
def State.addRow (m : Nat) : List Nat → State → Bool × State
  | [], s => (true, s)
  | x :: xs, s =>
    let one := s.addLost x m 1 .unrecoverableRow
    if one.1 then State.addRow m xs one.2 else (false, one.2)

/-- One row of a job is computed (R124, R125). -/
def State.jobRow (j : Job) (g : Geometry) (row : Nat) (s : State) : RowOutcome × Bool × State :=
  let out := s.computeRow g j.stripe j.cells row
  let active := s.rbc.activeOf j
  match out.full with
  | some _ =>
    let p := s.rbc
    let p1 := if active = [] then p else { p with rowsReconstructed := saturate (p.rowsReconstructed + 1) }
    (out, true, s.putPass p1)
  | none =>
    let p := s.rbc
    let added := State.addRow (g.memberBlock j.stripe row) active
      (s.putPass { p with rowsUnrecoverable := saturate (p.rowsUnrecoverable + 1) })
    (out, added.1, added.2)

/-- The rows of a job are computed in ascending order, none after a refused addition (R124, R125). -/
def State.jobRows (j : Job) (g : Geometry) : List Nat → State → JobRows × State
  | [], s => ({ outs := [], refused := false }, s)
  | row :: rows, s =>
    let one := s.jobRow j g row
    if one.2.1 then
      let more := State.jobRows j g rows one.2.2
      ({ more.1 with outs := one.1 :: more.1.outs }, more.2)
    else ({ outs := [one.1], refused := true }, one.2.2)

/-- The WRITE of a target's strip (R126): reconstructed blocks, and zeros for unrecoverable rows, which are
not handed for trimming. -/
def targetStrip (g : Geometry) (stripe x : Nat) (outs : List RowOutcome) : DriveCmd :=
  { position := x, first := g.memberBlock stripe 0, count := g.k,
    op := .write
      (outs.map fun o => (o.full.map fun f => f.onPosition g stripe x).getD Block.zero)
      (outs.map fun o => o.full.isSome) }

/-- A pass in progress becomes STOPPING with a cause; a stopping pass keeps its cause (R139 to R141). -/
def PassRecord.stopFor (p : PassRecord) (cause : PassResult) : PassRecord :=
  if p.state.working then { p with state := .stopping, stopCause := some cause } else p

/-- A job enters WRITING (R126): target strips, then repairs. -/
def State.startWriting (j : Job) (g : Geometry) (outs : List RowOutcome) (s : State) : State :=
  let repairs := writeRuns g j.stripe (s.repairItems g j.stripe outs)
  let strips := (s.rbc.activeOf j).map fun x => targetStrip g j.stripe x outs
  State.jobHands { j with state := .writing, erasures := outs.map fun o => o.erasures } (strips ++ repairs)
    (s.putPass { s.rbc with repairs := saturate (s.rbc.repairs + repairs.length) })

/-- COMPUTING (R124, R125), and what follows it. -/
def State.computeJob (j : Job) (g : Geometry) (s : State) : State :=
  let j1 := { j with state := .computing }
  let done := State.jobRows j1 g (List.range g.k) (s.putJob j1)
  if done.1.refused then
    State.jobFails { j1 with erasures := done.1.outs.map fun o => o.erasures }
      (done.2.putPass (done.2.rbc.stopFor .abortedListFull))
  else done.2.startWriting j1 g done.1.outs

/-- A job goes on when nothing of its phase is outstanding. -/
def State.advanceJob (k : Nat) (s : State) : State :=
  match s.jobOf k, s.geom with
  | some j, some g =>
    if j.outstanding ≠ 0 ∨ j.state.ended then s
    else if j.cutShort then s.jobFails j
    else
      match j.state with
      | .reading => s.computeJob j g
      | .writing => s.jobCompletes j
      | _ => s
  | _, _ => s

/-- A READ's outcome reaches a job (R123); a job that is cut short discards it (R139). -/
def State.jobRead (k : Nat) (cmd : DriveCmd) (outcomes : List BlockOutcome) (s : State) : State :=
  match s.jobOf k, s.geom with
  | some j, some g =>
    let cells :=
      if j.cutShort then j.cells
      else j.cells ++ outcomeCells cmd.position (g.memberRow cmd.first) outcomes
    State.later (.job k) (s.putJob { j with outstanding := j.outstanding - 1, cells := cells })
  | _, _ => s

/-- A WRITE of a job has ended (R126). -/
def State.jobWritten (k : Nat) (s : State) : State :=
  match s.jobOf k with
  | some j => State.later (.job k) (s.putJob { j with outstanding := j.outstanding - 1 })
  | none => s

/-! ## The end of a pass -/

/-- The pass record after the end of a pass (R142). -/
def PassRecord.ended (p : PassRecord) : PassRecord :=
  { p with state := .idle, targets := [], doneTargets := [], stopCause := none, window := [] }

/-- The targets of an end record (R128, R142, R143): a COMPLETED pass carries those that became DONE. -/
def PassRecord.endTargets (p : PassRecord) (result : PassResult) : List Target :=
  if result = .completed then p.targets ++ p.doneTargets else p.targets

/-- The pass ends (R142). A target that is still ACTIVE returns to FAILED; a COMPLETED pass has none (R129). -/
def State.endPass (result : PassResult) (s : State) : State :=
  let back := s.rbc.active.map fun t => t.position
  let s1 := back.foldl (fun s x => s.returnPosition x)
    (s.putPass { s.rbc with window := [], lastResult := result })
  let s2 := s1.handRecord (s1.rbc.endTargets result) result
  State.latch .passEnded (s2.putPass s2.rbc.ended)

/-- A STOPPING pass ends once it has drained (R142). -/
def State.endIfDrained (s : State) : State :=
  match s.rbc.state, s.rbc.stopCause with
  | .stopping, some cause => if s.rbc.window.all fun j => j.state.ended then s.endPass cause else s
  | _, _ => s

/-! ## The frontier -/

/-- The jobs that an advance of F passes over (R127). -/
def PassRecord.passed (p : PassRecord) : List Job := p.window.takeWhile fun j => j.state == .complete

/-- The ACTIVE targets that a frontier brings to the end of their range (R128). -/
def PassRecord.reached (p : PassRecord) (stripes : Nat) : List Target :=
  p.active.filter fun t => decide (t.stop stripes ≤ p.f)

/-- Whether an advance of F crosses a multiple of the checkpoint interval (R143). -/
def crossesInterval (interval old new : Nat) : Bool := decide (old / interval < new / interval)

/-- Targets become DONE (R128): their positions turn IN-SERVICE and their entries leave the list. -/
def State.finishTargets (done : List Target) (s : State) : State :=
  if done = [] then s
  else
    let s1 := done.foldl (fun s t => s.finishPosition t.position) s
    s1.putPass { s1.rbc with
      targets := s1.rbc.targets.filter fun t => !done.contains t
      doneTargets := done.map fun t => { t with state := .done } }

/-- A PAUSING pass whose window is empty becomes PAUSED, with its record (R132, R143). -/
def State.pauseIfEmpty (s : State) : State :=
  if s.rbc.state = .pausing ∧ s.rbc.window = [] then
    State.handProgress (s.putPass { s.rbc with state := .paused })
  else s

/-- What an advance of F from an old value sets off (R127 to R129, R132, R143). An advance short of E that owes a record
hands it also where it empties the window of a PAUSING pass (DEDUCED) or drains a STOPPING one (DESIGN CHOICE): the
record of PAUSED, or the end record, then follows as a second one (log 16). -/
def State.afterAdvance (old : Nat) (g : Geometry) (s : State) : State :=
  let done := s.rbc.reached g.s
  let s1 := s.finishTargets done
  if s1.rbc.f = s1.rbc.e then s1.endPass .completed
  else
    let s2 :=
      if crossesInterval s1.cps.interval old s1.rbc.f || !done.isEmpty then s1.handProgress else s1
    State.laterAll [.startJobs, .drained] s2.pauseIfEmpty

/-- F advances over the COMPLETE jobs at the head of the window (R127). -/
def State.advanceFrontier (s : State) : State :=
  match s.rbc.passed, s.geom with
  | [], _ => s.later .drained
  | passed, some g =>
    State.afterAdvance s.rbc.f g
      (s.putPass { s.rbc with f := s.rbc.f + passed.length, window := s.rbc.window.drop passed.length })
  | _, none => s

/-! ## Failures during a pass -/

/-- A job that is not COMPLETE or FAILED is cut short (R139). -/
def State.cutJob (j : Job) (s : State) : State :=
  if j.state.ended then s
  else if j.state = .locking then
    State.giveUp (.job j.k) (s.putJob { j with state := .failed, cutShort := true })
  else State.later (.job j.k) (s.putJob { j with cutShort := true })

/-- The jobs of the window are cut short (R139, R140). -/
def State.cutJobs (s : State) : State := s.rbc.window.foldl (fun s j => s.cutJob j) s

/-- A target entry once the target of a position is lost. -/
def Target.lose (x : Nat) (t : Target) : Target := if t.position == x then { t with state := .lost } else t

/-- The pass record once the target of a position is lost (R138, steps 1 and 2). -/
def PassRecord.lose (p : PassRecord) (stripes x : Nat) : PassRecord :=
  let p1 := { p with targets := p.targets.map (Target.lose x) }
  { p1 with e := p1.endAfterLoss stripes }

/-- The target of a position that was REBUILDING is lost (R138, R139). -/
def State.targetLost (x : Nat) (g : Geometry) (s : State) : State :=
  let s1 := s.putPass (s.rbc.lose g.s x)
  if s1.rbc.active = [] then State.cutJobs (s1.putPass (s1.rbc.stopFor .abortedTargetsLost))
  else s1.handProgress

/-- The array has become FAILED during a pass (R140). -/
def State.passArrayFailed (s : State) : State :=
  if s.rbc.state = .idle then s
  else State.cutJobs (s.putPass (s.rbc.stopFor .abortedArrayFailed))

end Sys2Proof.Machine
end

