-- ==== Sys2Proof/Machine/Ops.lean ====
section
/-! DEFINITION. What every family of commands shares: the failure of a position (spec/02, R31 to R36), the
work that one event sets off inside the part (log 4), and the way of a request past the guard record
(spec/11, R188, R191). -/

namespace Sys2Proof.Machine

/-! ## The failure of a position -/

/-- The record of a failed position (R34). -/
def PosRec.failedBy (cause : FailCause) : PosRec :=
  { state := .failed, channel := none, spare := none, cause := some cause }

/-- The former channel of a failed position ends every command (R35): the channel, and what its owners are
to be told. -/
def State.failFormer (channel : Option Chan) (cause : FailCause) (s : State) : State × List Task :=
  match channel with
  | some c => (s.putChannel c ((s.channel c).failed cause), (s.channel c).endings c)
  | none => (s, [])

/-- The lost target of a position that was REBUILDING (R34, R138). -/
def State.loseTargetOf (x : Nat) (p : PosRec) (s : State) : State :=
  match p.state, s.geom with
  | .rebuilding, some g => s.targetLost x g
  | _, _ => s

/-- What follows when a failure has made the array FAILED (R36): ARRAY-LOST, the pass and the extent
requests. -/
def State.arrayFails (s : State) : State :=
  State.failRequests (State.passArrayFailed (State.latch .arrayLost s))

/-- A position fails (R34 to R36). -/
def State.failPosition (x : Nat) (p : PosRec) (cause : FailCause) (s : State) : State :=
  let before := s.table.state
  let s1 : State := { s with table := s.table.setPosition x (PosRec.failedBy cause) }
  let former := s1.failFormer p.channel cause
  let s2 := State.latch .memberFailed (former.1.invalidatePosition x)
  let s3 := s2.loseTargetOf x p
  let s4 := if s3.table.state = .failed ∧ before ≠ .failed then s3.arrayFails else s3
  s4.laterAll (former.2 ++ [.drained])

/-- The position that holds a channel fails (R31, R32); a channel that holds none changes nothing. -/
def State.failChannel (c : Chan) (cause : FailCause) (s : State) : State :=
  match s.table.memberOf c with
  | none => s
  | some x =>
    match s.table.position x with
    | some p => s.failPosition x p cause
    | none => s

/-- Whether an auto-fail demand on a position is taken (R33). -/
def State.demandTaken (s : State) (p : PosRec) : Bool :=
  match p.state with
  | .rebuilding => s.table.state != .failed
  | _ => decide (s.table.lacking + 1 ≤ 2)

/-- An auto-fail demand reaches the Array Table (R33): taken, withheld or dropped. -/
def State.demand (c : Chan) (s : State) : State :=
  match (s.table.memberOf c).bind fun x => s.table.position x with
  | none => s
  | some p => if s.demandTaken p then s.failChannel c .threshold else s

/-! ## The work of one event (log 4) -/

/-- The buffer fills of a READ that a channel performed for a segment (R54, R69). -/
def State.fillFrom (o : Owner) (cmd : DriveCmd) (performed : Option Chan) (outcomes : List BlockOutcome)
    (shadow : List (Nat × Nat)) (s : State) : State :=
  match o, performed, cmd.op with
  | .segment _, some c, .read notes => s.fillAll c cmd.position notes shadow cmd.first outcomes
  | _, _, _ => s

/-- A READ's outcome reaches its owner (R54). -/
def State.readReaches (o : Owner) (cmd : DriveCmd) (outcomes : List BlockOutcome) (s : State) : State :=
  match o with
  | .segment tag => s.segmentRead tag cmd outcomes
  | .job k => s.jobRead k cmd outcomes

/-- A WRITE's end reaches its owner (R56). -/
def State.writeReaches (o : Owner) (s : State) : State :=
  match o with
  | .segment tag => s.segmentWritten tag
  | .job k => s.jobWritten k

/-- A grant reaches its requester (R83). -/
def State.grantReaches (r : Requester) (s : State) : State :=
  match r with
  | .extent tag => s.grantRequest tag
  | .job k => s.grantJob k

/-- One unit of work. -/
def runTask (t : Task) (s : State) : State :=
  match t with
  | .frame f => s.handFrame f
  | .hand o cmd => s.handCommand o cmd
  | .readDone o cmd performed outcomes shadow =>
    (s.fillFrom o cmd performed outcomes shadow).readReaches o cmd outcomes
  | .writeDone o => s.writeReaches o
  | .demand c => s.demand c
  | .failChannel c cause => s.failChannel c cause
  | .arbiter c => s.runArbiter c
  | .reissue c i => s.continueRead c i
  | .granted r => s.grantReaches r
  | .segment tag => s.advanceRequest tag
  | .nextSegment tag => s.nextSegment tag
  | .job k => s.advanceJob k
  | .frontier => s.advanceFrontier
  | .startJobs => s.startJobs
  | .drained => s.endIfDrained

/-- Units of work are run in order; what one sets off is run before what stood behind it (log 4). What the
bound n leaves undone is kept for the next command. -/
def drain : Nat → List Task → State → State
  | _, [], s => s
  | 0, ts, s => { s with agenda := ts }
  | n + 1, t :: ts, s =>
    let s1 := runTask t s
    drain n (s1.agenda ++ ts) { s1 with agenda := [] }

/-- The work that an event has set off is done. -/
def State.settle (s : State) : State := drain Config.cascadeFuel s.agenda { s with agenda := [] }

/-! ## The way of a request -/

/-- The guard record replaced. -/
def State.setGuard (g : Option Guard) (s : State) : State := { s with ali := { s.ali with guard := g } }

/-- Whether a request is guarded now (R190): DEFINE-ARRAY only while an array is defined. -/
def State.guardedNow (s : State) (code : Nat) : Bool :=
  guardableCodes.contains code && (code != codeDefineArray || s.table.definition.isSome)

/-- The error of a guarded request that finds no guard (R191). -/
def unguardedError (code tag : Nat) : ErrorFields :=
  linkError .unguarded false (some (.request code)) (some (.request tag))

/-- The error of a request that breaks a guard (R191). -/
def guardBrokenError (code tag : Nat) : ErrorFields :=
  linkError .guardBroken false (some (.request code)) (some (.request tag))

/-- The guard record takes its part, and the request is routed or refused (R191). -/
def State.passGuard (tag code : Nat) (position : Option Nat) (own : State → State) (s : State) : State :=
  if s.ali.guard = some { code := code, position := position } then own (s.setGuard none)
  else if s.guardedNow code then
    State.takeError linkBank (unguardedError code tag) (State.refuse tag .unguarded (s.setGuard none))
  else if queryCodes.contains code then own s
  else
    match s.ali.guard with
    | some _ => own (State.takeError linkBank (guardBrokenError code tag) (s.setGuard none))
    | none => own s

/-- A REQUEST frame that is well formed: discarded while the ALI takes no frame (R194, R195), refused with
tag 0 (R188), else past the guard record to its owner. -/
def State.route (tag code : Nat) (position : Option Nat) (own : State → State) (s : State) : State :=
  if s.ali.taking then
    if tag = 0 then s.refuse 0 .badValue else s.passGuard tag code position own
  else s

end Sys2Proof.Machine
end

