-- ==== Sys2Proof/Machine/Link.lean ====
section
/-! DEFINITION. The commands of the array link (spec/11): frames discarded, malformed requests, host DATA,
the end of a transmission with the restart it may bring, IDENTIFY, GUARD and RESTART. -/

namespace Sys2Proof.Machine

/-- What a meaning answers. -/
abbrev Answer := Host.Outcome State Fault Refusal

/-! ## Received frames -/

/-- The error of a discarded frame (R187, Table 10-2). -/
def discardError : DiscardReason → ErrorFields
  | .frameCheck => linkError .frameCheck true none none
  | .length kind => linkError .frameLength true (some (.frame kind)) none
  | .unknownKind tag => linkError .unknownKind true none (some (.request tag))
  | .dataBody => linkError .frameLength true (some (.frame 0x03)) none

/-- FRAME_DISCARDED (R187): the error is handed to bank 13; a frame that arrives while the ALI takes none is
not logged (R194, R195). -/
def execFrameDiscarded (reason : DiscardReason) (s : State) : Answer :=
  .next (if s.ali.taking then s.takeError linkBank (discardError reason) else s)

/-- The status of a REQUEST frame that the ALI refuses itself (R188). -/
def malformedStatus (tag code : Nat) : Status :=
  if tag = 0 then .badValue
  else if requestCodes.contains code then .badLength
  else .unknownRequest

/-- UNKNOWN_REQUEST (R188): a request that fails a check of the ALI is refused and changes nothing else. -/
def execUnknownRequest (tag code : Nat) (s : State) : Answer :=
  .next (if s.ali.taking then s.refuse tag (malformedStatus tag code) else s)

/-- RECEIVED_FRAME_NOT_TAKEN (R194, step 2): discarded without being logged. -/
def execReceivedFrameNotTaken (s : State) : Answer := .next s

/-- Whether an entry's grant takes a frame of an index (R102). -/
def ExtentReq.takesData (r : ExtentReq) (index : Nat) : Bool :=
  r.kind == .write && r.state == .dataWait &&
    match r.work.grant with
    | some (first, count) => decide (first ≤ index) && decide (index < first + count)
    | none => false

/-- Whether the received set holds every index of the grant (R102). -/
def ExtentReq.dataComplete (r : ExtentReq) : Bool :=
  match r.work.grant with
  | some (first, count) =>
    (List.range count).all fun i => r.work.received.any fun e => e.1 == first + i
  | none => false

/-- A block is taken into the received set; a second one for an index replaces the first (R102). -/
def ExtentReq.receive (r : ExtentReq) (index : Nat) (b : Block) : ExtentReq :=
  { r with work := { r.work with received := (r.work.received.filter fun e => e.1 != index) ++ [(index, b)] } }

/-- The error of a DATA frame that no grant takes (R102). -/
def ungrantedError (tag index : Nat) : ErrorFields :=
  { code := .ungrantedData, uncorrected := true, block := some index, count := 1,
    kind := some (.frame 0x03), owner := some (.request tag) }

/-- A DATA frame reaches the Extent Service Unit (R102): taken into the grant, or discarded. -/
def State.takeData (tag index : Nat) (block : Option Block) (s : State) : State :=
  match s.request tag, s.geom, block with
  | some r, some g, some b =>
    if r.takesData index then
      let r1 := r.receive index b
      if r1.dataComplete then s.chooseMethod r1 g else s.putRequest r1
    else s.takeError linkBank (ungrantedError tag index)
  | _, _, _ => s.takeError linkBank (ungrantedError tag index)

/-- DATA (R102). -/
def execData (tag index : Nat) (block : Option Block) (s : State) : Answer :=
  .next (if s.ali.taking then (s.takeData tag index block).settle else s)

/-! ## Restart -/

/-- The command of a slot as a restart leaves it (R61): an owned one becomes an orphan. -/
def Slot.orphaned (x : Slot) : Slot :=
  match x.work with
  | .owned _ cmd next _ _ _ =>
    match cmd.op with
    | .read notes =>
      { x with work := .orphan { cmd with first := next, count := cmd.remaining next, op := .read notes } }
    | .write .. => { x with work := .orphan cmd }
  | _ => x

/-- A channel as a restart leaves it (R61). -/
def Channel.restarted (ch : Channel) : Channel :=
  { ch with slots := ch.slots.map fun x => x.map Slot.orphaned, foreground := [], rebuild := [] }

/-- A position record as a restart leaves it (R41). -/
def PosRec.restarted (p : PosRec) : PosRec :=
  match p.state with
  | .rebuilding => { p with state := .failed, channel := none, spare := p.channel }
  | _ => p

/-- The Array Table as a restart leaves it (R41). -/
def ArrayTable.restarted (t : ArrayTable) : ArrayTable :=
  { definition := t.definition.map fun d => { d with positions := d.positions.map PosRec.restarted } }

/-- The pass record as a restart leaves it (R145). -/
def PassRecord.restarted (p : PassRecord) : PassRecord := p.ended

/-- The part restarts (R194, step 4): each block takes the contents its chapter gives for a restart. -/
def State.partRestart (s : State) : State :=
  { s with
    ali := LinkState.cold
    table := s.table.restarted
    slt := { entries := [], fullQueue := [] }
    esu := { requests := [] }
    rbc := s.rbc.restarted
    cbs := BufferStore.cold
    dc := { s.dc with channels := s.dc.channels.map Channel.restarted }
    lel := LostList.cold
    cps := s.cps.restarted
    eba := { s.eba with attention := 0, noticeWaiting := false }
    agenda := [] }

/-- The transmission under way ends (R192): the OK reply of a RESTART brings the restart, else the next frame
is chosen. -/
def State.transmitted (s : State) : State :=
  match s.ali.sending with
  | none => s
  | some _ =>
    match s.ali.restart with
    | .sending => s.partRestart
    | _ => State.chooseFrame { s with ali := { s.ali with sending := none } }

/-- FRAME_TRANSMITTED (R192, R194). -/
def execFrameTransmitted (s : State) : Answer := .next s.transmitted

/-- RESTART is taken (R194, steps 1 and 2). -/
def State.takeRestart (tag : Nat) (s : State) : State :=
  State.ifIdleChoose { s with ali := { s.ali with taking := false, restart := .queued tag } }

/-- RESTART (R194). -/
def execRestart (tag : Nat) (s : State) : Answer :=
  .next (s.route tag codeRestart none (State.takeRestart tag))

/-! ## IDENTIFY and GUARD -/

/-- IDENTIFY (R193). -/
def execIdentify (tag : Nat) (s : State) : Answer :=
  .next (s.route tag codeIdentify none (State.replyOk tag .identity))

/-- Whether a GUARD is refused (R190). -/
def guardRefused (code position : Nat) : Bool :=
  !guardableCodes.contains code || (positionCodes.contains code && decide (10 < position))

/-- The guard that an accepted GUARD leaves (R190). -/
def guardOf (code position : Nat) : Guard :=
  { code := code, position := if positionCodes.contains code then some position else none }

/-- The ALI takes a GUARD (R190). -/
def State.takeGuard (tag code position : Nat) (s : State) : State :=
  if guardRefused code position then s.refuse tag .badValue
  else State.replyOk tag .empty (s.setGuard (some (guardOf code position)))

/-- GUARD (R190): it alone of the requests does not act on the guard record as R191 lays down. -/
def execGuard (tag code position : Nat) (s : State) : Answer :=
  .next
    (if s.ali.taking then
      if tag = 0 then s.refuse 0 .badValue else s.takeGuard tag code position
    else s)

end Sys2Proof.Machine
end

