-- ==== Sys2Proof/Machine/ArrayRequests.lean ====
section
/-! DEFINITION. The member requests and QUERY-ARRAY (spec/02, R24 to R30, R39). -/

namespace Sys2Proof.Machine

/-! ## DEFINE-ARRAY -/

/-- Whether a position entry names IN-SERVICE. -/
def entryServes (e : PositionEntry) : Bool := e.state == 0

/-- The channels of the IN-SERVICE entries. -/
def servingChannels (es : List PositionEntry) : List Nat :=
  (es.filter entryServes).map fun e => e.channel

/-- Whether an entry names a state or a channel that there is none of (R25, check 5). -/
def entryBad (e : PositionEntry) : Bool :=
  decide (1 < e.state) || (entryServes e && decide (11 < e.channel))

/-- Whether a list names something twice. -/
def namesTwice : List Nat → Bool
  | [] => false
  | x :: xs => xs.contains x || namesTwice xs

/-- Whether the channel of a number is READY. -/
def State.readyChannel (s : State) (c : Nat) : Bool :=
  (channelOf c).any fun ch => (s.channel ch).state == .ready

/-- Whether the channel of a number has a drive of too few blocks for a geometry (R4). -/
def State.smallChannel (s : State) (g : Geometry) (c : Nat) : Bool :=
  (channelOf c).any fun ch => decide ((s.channel ch).capacity.getD 0 < g.memberEnd)

/-- The status with which DEFINE-ARRAY is refused, from check 4 on (R25). -/
def State.defineRefusal (s : State) (g : Geometry) (es : List PositionEntry) : Option Status :=
  if !g.valid then some .badValue
  else if es.any entryBad then some .badValue
  else if namesTwice (servingChannels es) then some .channelInUse
  else if (servingChannels es).any fun c => !s.readyChannel c then some .channelNotReady
  else if (servingChannels es).any fun c => s.smallChannel g c then some .tooSmall
  else none

/-- The position record that an entry defines (R26). -/
def entryRecord (e : PositionEntry) : PosRec :=
  if entryServes e then { state := .inService, channel := channelOf e.channel, spare := none, cause := none }
  else { state := .failed, channel := none, spare := none, cause := none }

/-- The Array Table takes a definition or loses it; every buffer line becomes invalid and the Lost Extent List
is emptied (R26, R27). -/
def State.define (d : Option ArrayDef) (s : State) : State :=
  State.invalidate (fun _ _ => true)
    { s with table := { definition := d }, lel := { s.lel with entries := [] } }

/-- The Array Table takes a DEFINE-ARRAY (R25 to R27). -/
def State.takeDefine (tag : Nat) (g : Geometry) (es : List PositionEntry) (s : State) : State :=
  if s.rbc.state ≠ .idle then s.refuse tag .wrongState
  else if s.esu.requests ≠ [] then s.refuse tag .busy
  else if g.w = 0 then
    match s.table.definition with
    | none => s.replyOk tag .empty
    | some _ => (s.define none).replyOk tag .empty
  else
    match s.defineRefusal g es with
    | some status => s.refuse tag status
    | none =>
      (s.define (some { geom := g, positions := es.map entryRecord })).replyOk tag .empty

/-- DEFINE_ARRAY (R25 to R27). -/
def execDefineArray (tag w k b0 stripes : Nat) (es : List PositionEntry) (s : State) : Answer :=
  .next (s.route tag codeDefineArray none
    (State.takeDefine tag { w := w, k := k, b0 := b0, s := stripes } es))

/-! ## FAIL-MEMBER, ASSIGN-SPARE, RETURN-MEMBER -/

/-- The checks of R24 on the definition and the position, and the rest of a request on the record found. -/
def State.onPosition (tag x : Nat) (own : ArrayDef → PosRec → State → State) (s : State) : State :=
  match s.table.definition with
  | none => s.refuse tag .notDefined
  | some d =>
    if d.geom.w ≤ x then s.refuse tag .badValue
    else
      match d.positions[x]? with
      | none => s.refuse tag .badValue
      | some p => own d p s

/-- The checks of R24 on a position and a channel. -/
def State.onPositionChannel (tag x c : Nat) (own : ArrayDef → PosRec → Chan → State → State) (s : State) :
    State :=
  s.onPosition tag x fun d p s =>
    match channelOf c with
    | none => s.refuse tag .badValue
    | some ch => own d p ch s

/-- The Array Table takes a FAIL-MEMBER (R28); the reply follows every effect of the failure (R24). -/
def State.takeFail (tag x : Nat) (s : State) : State :=
  s.onPosition tag x fun _ p s =>
    if p.state = .failed then s.refuse tag .wrongState
    else State.later (.frame (.reply tag .ok .empty)) (s.failPosition x p .host)

/-- FAIL_MEMBER (R28). -/
def execFailMember (tag x : Nat) (s : State) : Answer :=
  .next (s.route tag codeFailMember (some x) (State.takeFail tag x)).settle

/-- Whether a channel is READY with a drive large enough, as a status if not (R29, R30: checks 3 and 4). -/
def State.channelRefusal (s : State) (g : Geometry) (c : Chan) : Option Status :=
  if (s.channel c).state ≠ .ready then some .channelNotReady
  else if (s.channel c).capacity.getD 0 < g.memberEnd then some .tooSmall
  else none

/-- Whether ASSIGN-SPARE finds the channel in use (R29, check 2). -/
def ArrayTable.usedElsewhere (t : ArrayTable) (x : Nat) (c : Chan) : Bool :=
  match t.use c with
  | .member => true
  | .assignedSpare => t.spareOf c != some x
  | .unused => false

/-- The Array Table takes an ASSIGN-SPARE (R29). -/
def State.takeAssign (tag x c : Nat) (s : State) : State :=
  s.onPositionChannel tag x c fun d p ch s =>
    if p.state ≠ .failed then s.refuse tag .wrongState
    else if s.table.usedElsewhere x ch then s.refuse tag .channelInUse
    else
      match s.channelRefusal d.geom ch with
      | some status => s.refuse tag status
      | none =>
        State.replyOk tag .empty { s with table := s.table.setPosition x { p with spare := some ch } }

/-- ASSIGN_SPARE (R29). -/
def execAssignSpare (tag x c : Nat) (s : State) : Answer :=
  .next (s.route tag codeAssignSpare (some x) (State.takeAssign tag x c))

/-- The record of a position that is returned to service on a channel (R30). -/
def PosRec.returned (c : Chan) : PosRec :=
  { state := .inService, channel := some c, spare := none, cause := none }

/-- The Array Table takes a RETURN-MEMBER (R30). -/
def State.takeReturn (tag x c : Nat) (s : State) : State :=
  s.onPositionChannel tag x c fun d p ch s =>
    if p.state ≠ .failed ∨ p.spare.isSome then s.refuse tag .wrongState
    else if s.table.use ch ≠ .unused then s.refuse tag .channelInUse
    else
      match s.channelRefusal d.geom ch with
      | some status => s.refuse tag status
      | none =>
        State.replyOk tag .empty { s with table := s.table.setPosition x (PosRec.returned ch) }

/-- RETURN_MEMBER (R30). -/
def execReturnMember (tag x c : Nat) (s : State) : Answer :=
  .next (s.route tag codeReturnMember (some x) (State.takeReturn tag x c))

/-! ## QUERY-ARRAY -/

/-- The reply of QUERY-ARRAY (R39). -/
def State.arrayReport (s : State) : ReplyBody := .array s.table.state s.table.lacking s.table.definition

/-- QUERY_ARRAY (R39). -/
def execQueryArray (tag : Nat) (s : State) : Answer :=
  .next (s.route tag codeQueryArray none fun s => s.replyOk tag s.arrayReport)

end Sys2Proof.Machine
end

