-- ==== Sys2Proof/Machine/BankRequests.lean ====
section
/-! DEFINITION. The requests of the error banks and of the attention set (spec/10, R177 to R179, R182, R183). -/

namespace Sys2Proof.Machine

/-- A request that names a bank: refused if there is none of the number. -/
def State.onBank (tag b : Nat) (own : BankNo → State → State) (s : State) : State :=
  match bankOf b with
  | none => s.refuse tag .badValue
  | some i => own i s

/-- QUERY_BANK (R179). -/
def execQueryBank (tag b : Nat) (s : State) : Answer :=
  .next (s.route tag codeQueryBank none
    (State.onBank tag b fun i s => s.replyOk tag (.bank (s.eba.banks.get i) (bankChannel i).isSome)))

/-- A bank takes a CLEAR-BANK (R178). -/
def State.takeClearBank (tag seen : Nat) (i : BankNo) (s : State) : State :=
  if 1 < seen then s.refuse tag .badValue
  else
    let b := (s.eba.banks.get i).cleared (seen == 1)
    (s.setBank i b).replyOk tag (.overflow b.overflow)

/-- CLEAR_BANK (R178). -/
def execClearBank (tag b seen : Nat) (s : State) : Answer :=
  .next (s.route tag codeClearBank none (State.onBank tag b (State.takeClearBank tag seen)))

/-- A bank takes a SET-THRESHOLD (R177). -/
def State.takeThreshold (tag n enable : Nat) (i : BankNo) (s : State) : State :=
  if n = 0 ∨ 1 < enable then s.refuse tag .badValue
  else
    let b := (s.eba.banks.get i).loaded (thresholdOf n) (enable == 1)
    (s.setBank i b).replyOk tag (.counter b.counter)

/-- SET_THRESHOLD (R177). -/
def execSetThreshold (tag b n enable : Nat) (s : State) : Answer :=
  .next (s.route tag codeSetThreshold none (State.onBank tag b (State.takeThreshold tag n enable)))

/-- The attention set takes a CLEAR-ATTENTION (R182). -/
def State.takeClearAttention (tag : Nat) (seen : Byte) (s : State) : State :=
  let left := s.eba.attention &&& ~~~seen
  State.replyOk tag (.attentionSet left) { s with eba := { s.eba with attention := left } }

/-- CLEAR_ATTENTION (R182). -/
def execClearAttention (tag : Nat) (seen : Byte) (s : State) : Answer :=
  .next (s.route tag codeClearAttention none (State.takeClearAttention tag seen))

/-- The reply of QUERY-ATTENTION (R183). -/
def ErrorUnit.report (e : ErrorUnit) : ReplyBody :=
  .attention e.attention (highestClass e.attention) e.noticeWaiting

/-- QUERY_ATTENTION (R183). -/
def execQueryAttention (tag : Nat) (s : State) : Answer :=
  .next (s.route tag codeQueryAttention none fun s => s.replyOk tag s.eba.report)

end Sys2Proof.Machine
end

