-- ==== Sys2Proof/Machine/BufferRequests.lean ====
section
/-! DEFINITION. CACHE-MODE (spec/04, R73 to R75). -/

namespace Sys2Proof.Machine

/-- The six flag values of a CACHE-MODE: of way 0 and of way 1. -/
structure CacheFlags where
  miss0 : Nat
  miss1 : Nat
  replace0 : Nat
  replace1 : Nat
  inject0 : Nat
  inject1 : Nat
deriving DecidableEq, Repr

/-- Whether a CACHE-MODE is refused (R75). -/
def CacheFlags.refused (f : CacheFlags) : Bool :=
  [f.miss0, f.miss1, f.replace0, f.replace1, f.inject0, f.inject1].any (fun v => decide (1 < v)) ||
    (f.replace0 == 1 && f.replace1 == 1)

/-- The flags of way 0 that a CACHE-MODE gives. -/
def CacheFlags.mode0 (f : CacheFlags) : WayMode :=
  { forceMiss := f.miss0 == 1, forceReplace := f.replace0 == 1, inject := f.inject0 == 1 }

/-- The flags of way 1 that a CACHE-MODE gives. -/
def CacheFlags.mode1 (f : CacheFlags) : WayMode :=
  { forceMiss := f.miss1 == 1, forceReplace := f.replace1 == 1, inject := f.inject1 == 1 }

/-- Whether setting the flags takes a way out of use (R73, R75): its force-miss passes from clear to set. -/
def waySwitchedOff (old0 new0 old1 new1 : WayMode) : Way → Bool
  | .way0 => !old0.forceMiss && new0.forceMiss
  | .way1 => !old1.forceMiss && new1.forceMiss

/-- The six flags are set, and the ways so taken out of use are emptied (R73, R75). -/
def State.setModes (m0 m1 : WayMode) (s : State) : State :=
  State.invalidate (fun w _ => waySwitchedOff s.cbs.mode0 m0 s.cbs.mode1 m1 w)
    { s with cbs := { s.cbs with mode0 := m0, mode1 := m1 } }

/-- The reply of CACHE-MODE (R75). -/
def BufferStore.report (b : BufferStore) : ReplyBody :=
  .cache b.mode0 b.mode1 (b.validLines .way0) (b.validLines .way1)

/-- The buffer store takes a CACHE-MODE (R75). Its reply carries the flags as the request has just set them, so that an
inject flag given shows as given, also where a placement had cleared it before (DESIGN CHOICE, log 31). -/
def State.takeCacheMode (tag : Nat) (f : CacheFlags) (s : State) : State :=
  if f.refused then s.refuse tag .badValue
  else
    let s1 := s.setModes f.mode0 f.mode1
    s1.replyOk tag s1.cbs.report

/-- CACHE_MODE (R75). -/
def execCacheMode (tag miss0 miss1 replace0 replace1 inject0 inject1 : Nat) (s : State) : Answer :=
  .next (s.route tag codeCacheMode none (State.takeCacheMode tag
    { miss0 := miss0, miss1 := miss1, replace0 := replace0, replace1 := replace1, inject0 := inject0,
      inject1 := inject1 }))

end Sys2Proof.Machine
end

