-- ==== Sys2Proof/Machine/ChannelCommands.lean ====
section
/-! DEFINITION. The requests of the drive channels and the events at their pins and drives (spec/03). -/

namespace Sys2Proof.Machine

/-! ## Requests -/

/-- The arbiters of all channels run in turn (R51). -/
def State.runArbiters (s : State) : State := (List.finRange 12).foldl (fun s c => s.runArbiter c) s

/-- The drive channels take a SET-SHARE (R51). -/
def State.takeShare (tag v : Nat) (s : State) : State :=
  let s1 : State := { s with dc := { s.dc with share := shareOf v } }
  let s2 := if s.dc.share < shareOf v then s1.runArbiters else s1
  s2.replyOk tag (.share (shareOf v))

/-- SET_SHARE (R51). -/
def execSetShare (tag v : Nat) (s : State) : Answer :=
  .next (s.route tag codeSetShare none (State.takeShare tag v))

/-- A request that names a channel: refused if there is none of the number. -/
def State.onChannel (tag c : Nat) (own : Chan → State → State) (s : State) : State :=
  match channelOf c with
  | none => s.refuse tag .badValue
  | some ch => own ch s

/-- The auto-fail enable of a channel's bank replaced (R58). -/
def State.setAutoFail (c : Chan) (v : Bool) (s : State) : State :=
  s.setBank (channelBank c) { s.eba.banks.get (channelBank c) with autoFail := v }

/-- A channel takes a SET-CHANNEL (R58); an auto-fail byte above 1 sets a free value (log 7). -/
def State.takeSetChannel (tag ms auto : Nat) (c : Chan) (s : State) : State :=
  let s1 := s.putChannel c { s.channel c with timeout := timeoutOf ms }
  (s1.setAutoFail c (enableOf auto)).replyOk tag (.timeout (timeoutOf ms))

/-- SET_CHANNEL (R58). -/
def execSetChannel (tag c ms auto : Nat) (s : State) : Answer :=
  .next (s.route tag codeSetChannel none (State.onChannel tag c (State.takeSetChannel tag ms auto)))

/-- The channel takes a RESET-CHANNEL (R47). A command that its slots or queues still hold for an owner ends as
failed, behind the reply (log 23). -/
def State.takeReset (tag : Nat) (c : Chan) (s : State) : State :=
  if (s.table.memberOf c).isSome then s.refuse tag .channelInUse
  else
    match (s.channel c).state with
    | .empty => s.refuse tag .channelNotReady
    | .probing => s.refuse tag .busy
    | _ =>
      State.laterAll ((s.channel c).endings c) ((State.startProbe c (s.cancelSpare c)).replyOk tag .empty)

/-- RESET_CHANNEL (R47). -/
def execResetChannel (tag c : Nat) (s : State) : Answer :=
  .next (s.route tag codeResetChannel none (State.onChannel tag c (State.takeReset tag))).settle

/-- The position concerned with a channel (R59). -/
def ArrayTable.positionOf (t : ArrayTable) (c : Chan) : Option Nat :=
  match t.memberOf c with
  | some x => some x
  | none => t.spareOf c

/-- The reply of QUERY-CHANNEL (R59). -/
def State.channelReport (s : State) (c : Chan) : ChannelReport :=
  let ch := s.channel c
  { state := ch.state, presence := ch.presence, use := s.table.use c, position := s.table.positionOf c,
    capacity := ch.capacity, foregroundSlots := ch.foregroundOut, rebuildSlots := ch.rebuildOut,
    probe := ch.probing, foregroundQueue := ch.foreground.length, rebuildQueue := ch.rebuild.length,
    timeout := ch.timeout, autoFail := (s.eba.banks.get (channelBank c)).autoFail, share := s.dc.share }

/-- QUERY_CHANNEL (R59). -/
def execQueryChannel (tag c : Nat) (s : State) : Answer :=
  .next (s.route tag codeQueryChannel none
    (State.onChannel tag c fun ch s => s.replyOk tag (.channel (s.channelReport ch))))

/-! ## Events -/

/-- An event at a channel; there is none at a number above 11. -/
def State.atChannel (c : Nat) (own : Chan → State → State) (s : State) : State :=
  match channelOf c with
  | none => s
  | some ch => own ch s

/-- INSERTION (R43). -/
def execInsertion (c : Nat) (s : State) : Answer := .next (s.atChannel c State.insertion)

/-- REMOVAL (R45, R31, R38). -/
def execRemoval (c : Nat) (s : State) : Answer := .next (s.atChannel c State.removal).settle

/-- CAPACITY_COMPLETION (R44). -/
def execCapacityCompletion (c t : Nat) (r : Completion) (s : State) : Answer :=
  .next (s.atChannel c fun ch => State.completion ch t r).settle

/-- PROBE_ALLOWANCE_EXPIRY (R44). -/
def execProbeAllowanceExpiry (c : Nat) (s : State) : Answer := .next (s.atChannel c State.probeExpiry).settle

/-- READ_COMPLETION (R53, R54, R61). -/
def execReadCompletion (c t : Nat) (r : Completion) (s : State) : Answer :=
  .next (s.atChannel c fun ch => State.completion ch t r).settle

/-- WRITE_COMPLETION (R56, R61). -/
def execWriteCompletion (c t : Nat) (r : Completion) (s : State) : Answer :=
  .next (s.atChannel c fun ch => State.completion ch t r).settle

/-- UNMATCHED_COMPLETION (R52). -/
def execUnmatchedCompletion (c t : Nat) (r : Completion) (s : State) : Answer :=
  .next (s.atChannel c fun ch => State.completion ch t r).settle

/-- COMPLETION_DISCARDED (R46). -/
def execCompletionDiscarded (c t : Nat) (r : Completion) (s : State) : Answer :=
  .next (s.atChannel c fun ch => State.completion ch t r).settle

/-- COMMAND_TIMEOUT (R55, R61). -/
def execCommandTimeout (c t : Nat) (s : State) : Answer :=
  .next (s.atChannel c fun ch => State.commandTimeout ch t).settle

end Sys2Proof.Machine
end

