-- ==== Sys2Proof/Machine/ExtentRequests.lean ====
section
/-! DEFINITION. The extent requests, CANCEL and the data wait timer (spec/06, R94, R103, R112). -/

namespace Sys2Proof.Machine

/-- The status with which an extent request is refused (R94). -/
def State.extentRefusal (s : State) (tag first count : Nat) : Option Status :=
  if (s.request tag).isSome then some .tagInUse
  else if Config.requestEntries ≤ s.esu.requests.length then some .queueFull
  else if count = 0 ∨ Config.maxExtent < count then some .badValue
  else
    match s.geom with
    | none => some .notDefined
    | some g =>
      if s.table.state = .failed then some .arrayFailed
      else if !g.inRange first count then some .range
      else none

/-- The entry of an accepted request (R94). -/
def ExtentReq.accepted (tag : Nat) (kind : ExtentKind) (first count : Nat) : ExtentReq :=
  { tag := tag, kind := kind, first := first, count := count, segment := 0, blocksDone := 0, lostCount := 0,
    firstLost := none, state := .lockWait, outstanding := 0, endPending := none, work := WorkingSet.new }

/-- An extent request takes an entry and asks for the lock of its first segment (R94, R80). -/
def State.acceptExtent (r : ExtentReq) (g : Geometry) (s : State) : State :=
  State.lock (.extent r.tag) (r.stripe g) r.kind.lockMode { s with esu := { requests := s.esu.requests ++ [r] } }

/-- The Extent Service Unit takes an extent request (R94). -/
def State.takeExtent (kind : ExtentKind) (tag first count : Nat) (s : State) : State :=
  match s.extentRefusal tag first count, s.geom with
  | none, some g => s.acceptExtent (ExtentReq.accepted tag kind first count) g
  | some status, _ => s.refuse tag status
  | none, none => s

/-- READ_EXTENT (R94). -/
def execReadExtent (tag first count : Nat) (s : State) : Answer :=
  .next (s.route tag codeReadExtent none (State.takeExtent .read tag first count)).settle

/-- WRITE_EXTENT (R94). -/
def execWriteExtent (tag first count : Nat) (s : State) : Answer :=
  .next (s.route tag codeWriteExtent none (State.takeExtent .write tag first count)).settle

/-- A request that waits ends CANCELLED: its reply is handed before CANCEL's own (R112). -/
def State.cancelWaiting (tag : Nat) (r : ExtentReq) (s : State) : State :=
  State.later (.frame (.reply tag .ok .empty)) (s.endRequest r .cancelled)

/-- The Extent Service Unit takes a CANCEL (R112). -/
def State.takeCancel (tag target : Nat) (s : State) : State :=
  match s.request target with
  | none => s.refuse tag .notFound
  | some r =>
    match r.state with
    | .lockWait => (s.giveUp (.extent target)).cancelWaiting tag r
    | .dataWait => (s.unlock (.extent target)).cancelWaiting tag r
    | _ =>
      (s.putRequest { r with endPending := some (r.endPending.getD .cancelled) }).replyOk tag .empty

/-- CANCEL (R112). -/
def execCancel (tag target : Nat) (s : State) : Answer :=
  .next (s.route tag codeCancel none (State.takeCancel tag target)).settle

/-- The data wait timer of a request expires (R103); one that does not run does not expire. -/
def State.dataWaitExpiry (tag : Nat) (s : State) : State :=
  match s.request tag with
  | none => s
  | some r =>
    if r.state = .dataWait ∧ r.work.dataTimer then
      (s.unlock (.extent tag)).endRequest r .dataTimeout
    else s

/-- DATA_WAIT_EXPIRY (R103). -/
def execDataWaitExpiry (tag : Nat) (s : State) : Answer := .next (s.dataWaitExpiry tag).settle

end Sys2Proof.Machine
end

