-- ==== Sys2Proof/Machine/LostRequests.lean ====
section
/-! DEFINITION. The requests of the Lost Extent List (spec/08, R152 to R155). -/

namespace Sys2Proof.Machine

/-- The Lost Extent List takes a LIST-LOST (R152). -/
def State.takeListLost (tag start : Nat) (s : State) : State :=
  if 255 < start then s.refuse tag .badValue
  else
    s.replyOk tag (.lostEntries s.lel.entries.length s.lel.limit ((s.lel.entries.drop start).take 64))

/-- LIST_LOST (R152). -/
def execListLost (tag start : Nat) (s : State) : Answer :=
  .next (s.route tag codeListLost none (State.takeListLost tag start))

/-- Whether a run of member blocks lies within the member data range of a geometry (R4). -/
def Geometry.memberRange (g : Geometry) (first count : Nat) : Bool :=
  decide (g.b0 ≤ first) && decide (first + count ≤ g.memberEnd)

/-- The status with which LOAD-LOST is refused (R153). -/
def State.loadRefusal (s : State) (es : List LostExtent) : Option Status :=
  match s.geom with
  | none => some .notDefined
  | some g =>
    if es.length = 0 ∨ 64 < es.length then some .badValue
    else if es.any fun e => decide (g.w ≤ e.position) || e.count == 0 || decide (Config.maxLostCount < e.count)
      then some .badValue
    else if es.any fun e => !g.memberRange e.first e.count then some .range
    else none

/-- The extents of a LOAD-LOST are added in order up to a refusal (R153): how many were taken. -/
def State.loadAll : List LostExtent → State → Nat × State
  | [], s => (0, s)
  | e :: es, s =>
    let one := s.addLost e.position e.first e.count .loaded
    if one.1 then
      let more := State.loadAll es one.2
      (more.1 + 1, more.2)
    else (0, one.2)

/-- The Lost Extent List takes a LOAD-LOST (R153). -/
def State.takeLoadLost (tag : Nat) (es : List LostExtent) (s : State) : State :=
  match s.loadRefusal es with
  | some status => s.refuse tag status
  | none =>
    let done := s.loadAll es
    done.2.reply tag (if done.1 = es.length then .ok else .listFull)
      (.loaded done.1 done.2.lel.entries.length)

/-- LOAD_LOST (R153). -/
def execLoadLost (tag : Nat) (es : List LostExtent) (s : State) : Answer :=
  .next (s.route tag codeLoadLost none (State.takeLoadLost tag es))

/-- The status with which DROP-LOST is refused (R154). -/
def State.dropRefusal (s : State) (x first count : Nat) : Option Status :=
  match s.geom with
  | none => some .notDefined
  | some g =>
    if g.w ≤ x ∨ count = 0 then some .badValue
    else if !g.memberRange first count then some .range
    else if s.lel.strictlyInside x first count && s.lel.entries.length == s.lel.limit then some .listFull
    else none

/-- The Lost Extent List takes a DROP-LOST (R154). -/
def State.takeDropLost (tag x first count : Nat) (s : State) : State :=
  match s.dropRefusal x first count with
  | some status => s.refuse tag status
  | none =>
    let s1 := s.trim x first count
    s1.replyOk tag (.dropped (s.lel.blocks - s1.lel.blocks) s1.lel.entries.length)

/-- DROP_LOST (R154). -/
def execDropLost (tag x first count : Nat) (s : State) : Answer :=
  .next (s.route tag codeDropLost (some x) (State.takeDropLost tag x first count))

/-- The Lost Extent List takes a SET-LOST-LIMIT (R155). -/
def State.takeLostLimit (tag v : Nat) (s : State) : State :=
  let limit := lostLimitOf s.lel.entries.length v
  State.replyOk tag (.lostLimit limit) { s with lel := { s.lel with limit := limit } }

/-- SET_LOST_LIMIT (R155). -/
def execSetLostLimit (tag v : Nat) (s : State) : Answer :=
  .next (s.route tag codeSetLostLimit none (State.takeLostLimit tag v))

end Sys2Proof.Machine
end

