-- ==== Sys2Proof/Machine/RebuildRequests.lean ====
section
/-! DEFINITION. The requests of the rebuild pass (spec/07, R130 to R136). -/

namespace Sys2Proof.Machine

/-- Whether a position is FAILED with an assigned spare, and can be taken as a target (R130, R131). -/
def ArrayTable.takeable (t : ArrayTable) (x : Nat) : Bool :=
  (t.position x).any fun p => p.state == .failed && p.spare.isSome

/-- The width that START-REBUILD's positions are compared with: none while no array is defined (R130). -/
def State.beyondWidth (s : State) (x : Nat) : Bool :=
  match s.table.definition with
  | none => false
  | some d => decide (d.geom.w ≤ x)

/-- The status with which START-REBUILD is refused (R130). -/
def State.startRefusal (s : State) (xs : List Nat) : Option Status :=
  if !([1, 2].contains xs.length) || xs.any s.beyondWidth || namesTwice xs then some .badValue
  else if s.rbc.state ≠ .idle then some .wrongState
  else if s.table.definition.isNone then some .notDefined
  else if s.table.state = .failed then some .wrongState
  else if xs.any fun x => !s.table.takeable x then some .wrongState
  else none

/-- The target entries of positions, in ascending position, from a start position on (R118). -/
def ArrayTable.targetsOf (t : ArrayTable) (w start : Nat) (xs : List Nat) : List Target :=
  ((List.range w).filter xs.contains).filterMap fun x =>
    ((t.position x).bind fun p => p.spare).map fun c =>
      { position := x, channel := c, start := start, state := .active }

/-- The pass number of a pass that starts (R130). -/
def CheckpointStore.nextNumber (c : CheckpointStore) : Nat :=
  match c.latest with
  | some (_, r) => nextPassNumber r.number
  | none => 1

/-- The pass record of a pass that starts or is resumed (R117, R130, R135). -/
def PassRecord.starting (number : Nat) (targets : List Target) (f e : Nat) : PassRecord :=
  { state := .running, number := number, targets := targets, doneTargets := [], f := f, n := f, e := e,
    stopCause := none, lastResult := .none, rowsReconstructed := 0, rowsUnrecoverable := 0, repairs := 0,
    window := [] }

/-- START-REBUILD is accepted (R130): record and reply, then jobs. -/
def State.beginPass (tag : Nat) (g : Geometry) (xs : List Nat) (s : State) : State :=
  let p := PassRecord.starting s.cps.nextNumber (s.table.targetsOf g.w 0 xs) 0 g.s
  let s1 := State.rebuildPositions (p.targets.map fun t => t.position) (s.putPass p)
  State.later .startJobs (s1.handProgress.replyOk tag .empty)

/-- The Rebuild Controller takes a START-REBUILD (R130). -/
def State.takeStart (tag : Nat) (xs : List Nat) (s : State) : State :=
  match s.startRefusal xs, s.geom with
  | none, some g => s.beginPass tag g xs
  | some status, _ => s.refuse tag status
  | none, none => s

/-- START_REBUILD (R130). -/
def execStartRebuild (tag : Nat) (xs : List Nat) (s : State) : Answer :=
  .next (s.route tag codeStartRebuild none (State.takeStart tag xs)).settle

/-- The status with which ADD-TARGET is refused (R131). -/
def State.addRefusal (s : State) (x : Nat) : Option Status :=
  match s.table.definition with
  | none => some .notDefined
  | some d =>
    if d.geom.w ≤ x then some .badValue
    else if !s.rbc.state.working then some .wrongState
    else if s.rbc.targets.length ≠ 1 then some .wrongState
    else if d.geom.s ≤ s.rbc.n then some .wrongState
    else if !s.table.takeable x then some .wrongState
    else none

/-- ADD-TARGET is accepted (R131). -/
def State.addTarget (tag x : Nat) (g : Geometry) (s : State) : State :=
  let p := { s.rbc with
    targets := s.rbc.targets ++ s.table.targetsOf g.w s.rbc.n [x]
    e := s.rbc.n + g.s }
  (State.rebuildPosition x (s.putPass p)).handProgress.replyOk tag .empty

/-- The Rebuild Controller takes an ADD-TARGET (R131). -/
def State.takeAdd (tag x : Nat) (s : State) : State :=
  match s.addRefusal x, s.geom with
  | none, some g => s.addTarget tag x g
  | some status, _ => s.refuse tag status
  | none, none => s

/-- ADD_TARGET (R131). -/
def execAddTarget (tag x : Nat) (s : State) : Answer :=
  .next (s.route tag codeAddTarget none (State.takeAdd tag x))

/-- The Rebuild Controller takes a PAUSE-REBUILD (R132). -/
def State.takePause (tag : Nat) (s : State) : State :=
  match s.rbc.state with
  | .running => (State.pauseIfEmpty (s.putPass { s.rbc with state := .pausing })).replyOk tag .empty
  | .pausing => s.replyOk tag .empty
  | .paused => s.replyOk tag .empty
  | .idle => s.refuse tag .wrongState
  | .stopping => s.refuse tag .wrongState

/-- PAUSE_REBUILD (R132). -/
def execPauseRebuild (tag : Nat) (s : State) : Answer :=
  .next (s.route tag codePauseRebuild none (State.takePause tag))

/-- The Rebuild Controller takes a CONTINUE-REBUILD (R133). -/
def State.takeContinue (tag : Nat) (s : State) : State :=
  if s.rbc.state = .pausing ∨ s.rbc.state = .paused then
    State.later .startJobs ((s.putPass { s.rbc with state := .running }).replyOk tag .empty)
  else s.refuse tag .wrongState

/-- CONTINUE_REBUILD (R133). -/
def execContinueRebuild (tag : Nat) (s : State) : Answer :=
  .next (s.route tag codeContinueRebuild none (State.takeContinue tag)).settle

/-- The Rebuild Controller takes an ABORT-REBUILD (R134). -/
def State.takeAbort (tag : Nat) (s : State) : State :=
  if s.rbc.state.working then
    State.later .drained ((s.putPass (s.rbc.stopFor .abortedByRequest)).replyOk tag .empty)
  else s.refuse tag .wrongState

/-- ABORT_REBUILD (R134). -/
def execAbortRebuild (tag : Nat) (s : State) : Answer :=
  .next (s.route tag codeAbortRebuild none (State.takeAbort tag)).settle

/-- Whether a recorded target can be taken again (R135, check 6). -/
def ArrayTable.matchesTarget (t : ArrayTable) (x : Target) : Bool :=
  (t.position x.position).any fun p => p.state == .failed && p.spare == some x.channel

/-- The status with which RESUME-REBUILD is refused (R135), or the record it takes. -/
def State.resumeCheck (s : State) : Status ⊕ CheckpointRecord :=
  if s.rbc.state ≠ .idle then .inl .wrongState
  else
    match s.geom with
    | none => .inl .notDefined
    | some g =>
      if s.table.state = .failed then .inl .wrongState
      else
        match s.cps.latest with
        | none => .inl .noResume
        | some (_, r) =>
          if r.result ≠ .none then .inl .noResume
          else if r.geom ≠ g then .inl .mismatch
          else if (r.targets.filter Target.active).any fun t => !s.table.matchesTarget t then .inl .mismatch
          else .inr r

/-- RESUME-REBUILD is accepted (R135). -/
def State.resumePass (tag : Nat) (r : CheckpointRecord) (s : State) : State :=
  let targets := r.targets.filter Target.active
  let s1 := State.rebuildPositions (targets.map fun t => t.position)
    (s.putPass (PassRecord.starting r.number targets r.f r.e))
  State.later .startJobs (s1.replyOk tag .empty)

/-- The Rebuild Controller takes a RESUME-REBUILD (R135). -/
def State.takeResume (tag : Nat) (s : State) : State :=
  match s.resumeCheck with
  | .inl status => s.refuse tag status
  | .inr r => s.resumePass tag r

/-- RESUME_REBUILD (R135). -/
def execResumeRebuild (tag : Nat) (s : State) : Answer :=
  .next (s.route tag codeResumeRebuild none (State.takeResume tag)).settle

/-- The reply of QUERY-PASS (R136). -/
def PassRecord.report (p : PassRecord) : PassReport :=
  { state := p.state, stopCause := p.stopCause, number := p.number, targets := p.targets, f := p.f, n := p.n,
    e := p.e, lastResult := p.lastResult, rowsReconstructed := p.rowsReconstructed,
    rowsUnrecoverable := p.rowsUnrecoverable, repairs := p.repairs,
    jobs := p.window.map fun j => (j.k, j.state) }

/-- QUERY_PASS (R136). -/
def execQueryPass (tag : Nat) (s : State) : Answer :=
  .next (s.route tag codeQueryPass none fun s => s.replyOk tag (.pass s.rbc.report))

end Sys2Proof.Machine
end

