-- ==== Sys2Proof/Machine/Starts.lean ====
section
/-! DEFINITION. The cold start and the end of the Checkpoint Store's scan (spec/03 R60, spec/09 R160, R172,
spec/11 R195; the cold contents of each block stand beside State). -/

namespace Sys2Proof.Machine

/-- A channel reads its presence line at a cold start (R60): an inserted drive is taken through an insertion. -/
def State.readPresence (presence : BitVec 12) (c : Chan) (s : State) : State :=
  if presence.getLsbD c.val then State.insertion c s else s

/-- The part with every block at its contents after a cold start, before the presence lines are read. -/
def State.powerUp (left : PowerLeft) (s : State) : State :=
  { State.reset with
    cps := CheckpointStore.cold (s.cps.nv.afterPowerLoss s.cps.op left)
    free := s.free
    pending := s.pending }

/-- COLD_START (R60, R172, R195): each channel reads its presence line in turn. -/
def execColdStart (presence : BitVec 12) (left : PowerLeft) (s : State) : Answer :=
  .next ((List.finRange 12).foldl (fun s c => s.readPresence presence c) (s.powerUp left))

/-- CHECKPOINT_SCAN_END (R160): the store is READY and the ALI takes frames. -/
def execCheckpointScanEnd (s : State) : Answer := .next s.scanEnd

end Sys2Proof.Machine
end

