-- ==== Sys2Proof/Machine/StoreCommands.lean ====
section
/-! DEFINITION. The requests of the Checkpoint Store and the events of its nonvolatile array (spec/09). -/

namespace Sys2Proof.Machine

/-- The number of slots of a status in the slot map. -/
def CheckpointStore.slotsOf (c : CheckpointStore) (x : SlotStatus) : Nat :=
  (c.slotMap.toList.filter fun y => y == x).length

/-- The reply of QUERY-STORE (R168). -/
def CheckpointStore.report (c : CheckpointStore) : StoreReport :=
  { state := c.state, classification := c.classification, wornFlag := c.wornFlag,
    eraseCount := c.nv.eraseCount, status := c.status, blank := c.slotsOf .blank,
    written := c.slotsOf .written, torn := c.slotsOf .torn,
    latest := c.latest.map fun e => (e.1.val, e.2.number, e.2.result),
    nextFree := c.nextFree.map fun i => i.val, recordPending := c.pendingRecord.isSome, interval := c.interval }

/-- QUERY_STORE (R168). -/
def execQueryStore (tag : Nat) (s : State) : Answer :=
  .next (s.route tag codeQueryStore none fun s => s.replyOk tag (.store s.cps.report))

/-- The reply of READ-CHECKPOINT (R169). -/
def CheckpointStore.readReply (c : CheckpointStore) : ReplyBody :=
  .checkpoint (c.latest.map fun e => (e.1.val, e.2))

/-- READ_CHECKPOINT (R169). -/
def execReadCheckpoint (tag : Nat) (s : State) : Answer :=
  .next (s.route tag codeReadCheckpoint none fun s => s.replyOk tag s.cps.readReply)

/-- The Checkpoint Store takes an ERASE-CHECKPOINTS (R170); it is answered when the cycle ends. -/
def State.takeErase (tag : Nat) (s : State) : State :=
  if s.cps.state = .programming ∨ s.cps.state = .erasing then s.refuse tag .busy
  else if s.cps.wornFlag then s.refuse tag .storeFault
  else s.putStore ({ s.cps with status := .normal }.beginErase (some tag))

/-- ERASE_CHECKPOINTS (R170). -/
def execEraseCheckpoints (tag : Nat) (s : State) : Answer :=
  .next (s.route tag codeEraseCheckpoints none (State.takeErase tag))

/-- The Checkpoint Store takes a SET-INTERVAL (R171). -/
def State.takeInterval (tag v : Nat) (s : State) : State :=
  State.replyOk tag (.interval (intervalOf v)) (s.putStore { s.cps with interval := intervalOf v })

/-- SET_INTERVAL (R171). -/
def execSetInterval (tag v : Nat) (s : State) : Answer :=
  .next (s.route tag codeSetInterval none (State.takeInterval tag v))

/-- SLOT_PROGRAM_END (R163, R164). -/
def execSlotProgramEnd (slot : Nat) (ok : Bool) (s : State) : Answer := .next (s.slotProgramEnd slot ok)

/-- SLOT_PROGRAM_TIMEOUT (R164): a program that has run for 10 ms has ended in error. -/
def execSlotProgramTimeout (slot : Nat) (s : State) : Answer := .next (s.slotProgramEnd slot false)

/-- RETIRE_CELL_PROGRAMMED (R165, R166). -/
def execRetireCellProgrammed (ok : Bool) (left : CellsLeft) (s : State) : Answer :=
  .next (s.eraseStepEnd .retireCell ok left)

/-- ERASE_END (R165, R166). -/
def execEraseEnd (ok : Bool) (left : CellsLeft) (s : State) : Answer := .next (s.eraseStepEnd .area ok left)

/-- OPEN_CELL_PROGRAMMED (R165, R166). -/
def execOpenCellProgrammed (ok : Bool) (left : CellsLeft) (s : State) : Answer :=
  .next (s.eraseStepEnd .openCell ok left)

/-- ERASE_STEP_TIMEOUT (R166). -/
def execEraseStepTimeout (left : CellsLeft) (s : State) : Answer := .next (s.eraseStepTimeout left)

end Sys2Proof.Machine
end

