-- ==== Sys2Proof/Machine/Dispatch.lean ====
section
/-! DEFINITION. The one match over the commands: each arm is one call of a meaning. -/

namespace Sys2Proof.Machine

/-- A command's effect on everything but the queue. -/
def exec (i : Instr) (s : State) : Host.Outcome State Fault Refusal :=
  match i with
  | .coldStart presence left => Sys2Proof.Machine.execColdStart presence left s
  | .checkpointScanEnd => Sys2Proof.Machine.execCheckpointScanEnd s
  | .frameDiscarded reason => Sys2Proof.Machine.execFrameDiscarded reason s
  | .unknownRequest tag code => Sys2Proof.Machine.execUnknownRequest tag code s
  | .data tag index block => Sys2Proof.Machine.execData tag index block s
  | .frameTransmitted => Sys2Proof.Machine.execFrameTransmitted s
  | .identify tag => Sys2Proof.Machine.execIdentify tag s
  | .defineArray tag w k b0 stripes entries => Sys2Proof.Machine.execDefineArray tag w k b0 stripes entries s
  | .failMember tag position => Sys2Proof.Machine.execFailMember tag position s
  | .assignSpare tag position channel => Sys2Proof.Machine.execAssignSpare tag position channel s
  | .returnMember tag position channel => Sys2Proof.Machine.execReturnMember tag position channel s
  | .guard tag code position => Sys2Proof.Machine.execGuard tag code position s
  | .startRebuild tag positions => Sys2Proof.Machine.execStartRebuild tag positions s
  | .addTarget tag position => Sys2Proof.Machine.execAddTarget tag position s
  | .pauseRebuild tag => Sys2Proof.Machine.execPauseRebuild tag s
  | .continueRebuild tag => Sys2Proof.Machine.execContinueRebuild tag s
  | .abortRebuild tag => Sys2Proof.Machine.execAbortRebuild tag s
  | .resumeRebuild tag => Sys2Proof.Machine.execResumeRebuild tag s
  | .readExtent tag first count => Sys2Proof.Machine.execReadExtent tag first count s
  | .writeExtent tag first count => Sys2Proof.Machine.execWriteExtent tag first count s
  | .cancel tag target => Sys2Proof.Machine.execCancel tag target s
  | .setShare tag value => Sys2Proof.Machine.execSetShare tag value s
  | .setChannel tag channel timeout autoFail => Sys2Proof.Machine.execSetChannel tag channel timeout autoFail s
  | .resetChannel tag channel => Sys2Proof.Machine.execResetChannel tag channel s
  | .cacheMode tag miss0 miss1 replace0 replace1 inject0 inject1 => Sys2Proof.Machine.execCacheMode tag miss0 miss1 replace0 replace1 inject0 inject1 s
  | .listLost tag start => Sys2Proof.Machine.execListLost tag start s
  | .loadLost tag extents => Sys2Proof.Machine.execLoadLost tag extents s
  | .dropLost tag position first count => Sys2Proof.Machine.execDropLost tag position first count s
  | .setLostLimit tag value => Sys2Proof.Machine.execSetLostLimit tag value s
  | .readCheckpoint tag => Sys2Proof.Machine.execReadCheckpoint tag s
  | .eraseCheckpoints tag => Sys2Proof.Machine.execEraseCheckpoints tag s
  | .setInterval tag value => Sys2Proof.Machine.execSetInterval tag value s
  | .queryArray tag => Sys2Proof.Machine.execQueryArray tag s
  | .queryPass tag => Sys2Proof.Machine.execQueryPass tag s
  | .queryChannel tag channel => Sys2Proof.Machine.execQueryChannel tag channel s
  | .queryBank tag bank => Sys2Proof.Machine.execQueryBank tag bank s
  | .queryStore tag => Sys2Proof.Machine.execQueryStore tag s
  | .queryAttention tag => Sys2Proof.Machine.execQueryAttention tag s
  | .clearBank tag bank overflowSeen => Sys2Proof.Machine.execClearBank tag bank overflowSeen s
  | .setThreshold tag bank count enable => Sys2Proof.Machine.execSetThreshold tag bank count enable s
  | .clearAttention tag seen => Sys2Proof.Machine.execClearAttention tag seen s
  | .restart tag => Sys2Proof.Machine.execRestart tag s
  | .insertion channel => Sys2Proof.Machine.execInsertion channel s
  | .removal channel => Sys2Proof.Machine.execRemoval channel s
  | .capacityCompletion channel driveTag completion => Sys2Proof.Machine.execCapacityCompletion channel driveTag completion s
  | .probeAllowanceExpiry channel => Sys2Proof.Machine.execProbeAllowanceExpiry channel s
  | .readCompletion channel driveTag completion => Sys2Proof.Machine.execReadCompletion channel driveTag completion s
  | .writeCompletion channel driveTag completion => Sys2Proof.Machine.execWriteCompletion channel driveTag completion s
  | .unmatchedCompletion channel driveTag completion => Sys2Proof.Machine.execUnmatchedCompletion channel driveTag completion s
  | .completionDiscarded channel driveTag completion => Sys2Proof.Machine.execCompletionDiscarded channel driveTag completion s
  | .commandTimeout channel driveTag => Sys2Proof.Machine.execCommandTimeout channel driveTag s
  | .dataWaitExpiry tag => Sys2Proof.Machine.execDataWaitExpiry tag s
  | .slotProgramEnd slot ok => Sys2Proof.Machine.execSlotProgramEnd slot ok s
  | .slotProgramTimeout slot => Sys2Proof.Machine.execSlotProgramTimeout slot s
  | .retireCellProgrammed ok left => Sys2Proof.Machine.execRetireCellProgrammed ok left s
  | .eraseEnd ok left => Sys2Proof.Machine.execEraseEnd ok left s
  | .openCellProgrammed ok left => Sys2Proof.Machine.execOpenCellProgrammed ok left s
  | .eraseStepTimeout left => Sys2Proof.Machine.execEraseStepTimeout left s
  | .receivedFrameNotTaken => Sys2Proof.Machine.execReceivedFrameNotTaken s

end Sys2Proof.Machine
end

