-- ==== Sys2Proof/Machine/Frames.lean ====
section
/-! DEFINITION. The bytes of the frames the part sends (spec/11, R186, Tables 11-1 and 11-2; the reply bodies
of the owning chapters). Where the spec leaves the place of an absent field open, the field is left out
(log 14). -/

namespace Sys2Proof.Machine

/-! ## Fields -/

/-- The n bytes of a number, high byte first (R186). -/
def bytesOf : Nat → Nat → List Byte
  | 0, _ => []
  | n + 1, v => BitVec.ofNat 8 (v / 256 ^ n) :: bytesOf n v

/-- A flag, 1 while set and 0 while clear: the spec codes so those that a request carries, and names no code for a
reply's (log 14). -/
def flagByte (b : Bool) : List Byte := [if b then 1 else 0]

/-- A field that may be absent. -/
def optBytes {α : Type} (f : α → List Byte) : Option α → List Byte
  | some x => f x
  | none => []

/-- A list of varying length: a one-byte count and its entries (R186). -/
def listBytes {α : Type} (f : α → List Byte) (xs : List α) : List Byte :=
  bytesOf 1 xs.length ++ xs.flatMap f

/-! ## CRC (R186) -/

/-- One bit enters the remainder of 1021H. -/
def crcBit (r : BitVec 16) (b : Bool) : BitVec 16 :=
  if r.msb != b then (r <<< 1) ^^^ 0x1021 else r <<< 1

/-- A byte enters the remainder, most significant bit first. -/
def crcByte (r : BitVec 16) (b : Byte) : BitVec 16 :=
  [7, 6, 5, 4, 3, 2, 1, 0].foldl (fun r i => crcBit r (b.getLsbD i)) r

/-- The CRC of a run of bytes, from FFFFH on. -/
def crcOf (bs : List Byte) : BitVec 16 := bs.foldl crcByte 0xFFFF

/-- A frame of a kind, tag, code and body, with its CRC (Table 11-1). -/
def frameBytes (kind tag code : Nat) (body : List Byte) : List Byte :=
  let inner := bytesOf 1 kind ++ bytesOf 2 tag ++ bytesOf 1 code ++ bytesOf 2 body.length ++ body
  inner ++ bytesOf 2 (crcOf inner).toNat

/-! ## Named values, by their place in the list of the chapter that owns them (R186; log 14) -/

/-- Its place in the list of R21. -/
def PosState.place : PosState → Nat
  | .inService => 0
  | .failed => 1
  | .rebuilding => 2

/-- Its place in the list of R21. -/
def FailCause.place : FailCause → Nat
  | .host => 0
  | .removed => 1
  | .writeFailure => 2
  | .threshold => 3
  | .spareLost => 4

/-- Its place in the list of R22. -/
def ArrayState.place : ArrayState → Nat
  | .undefined => 0
  | .normal => 1
  | .degraded1 => 2
  | .degraded2 => 3
  | .failed => 4

/-- Its place in the list of R23. -/
def ChannelUse.place : ChannelUse → Nat
  | .member => 0
  | .assignedSpare => 1
  | .unused => 2

/-- Its place in the list of Table 3-1. -/
def ChannelState.place : ChannelState → Nat
  | .empty => 0
  | .probing => 1
  | .ready => 2
  | .offline => 3

/-- Its place in the list of R117. -/
def PassState.place : PassState → Nat
  | .idle => 0
  | .running => 1
  | .pausing => 2
  | .paused => 3
  | .stopping => 4

/-- The place of a result among the last results (R117). -/
def PassResult.place : PassResult → Nat
  | .none => 0
  | .completed => 1
  | .abortedByRequest => 2
  | .abortedListFull => 3
  | .abortedArrayFailed => 4
  | .abortedTargetsLost => 5

/-- The place of a stop cause among the stop causes (R117), which begin with ABORTED-BY-REQUEST. -/
def PassResult.stopPlace (r : PassResult) : Nat := r.place - 2

/-- Its place in the list of R118. -/
def TargetState.place : TargetState → Nat
  | .active => 0
  | .done => 1
  | .lost => 2

/-- Its place in the list of R121. -/
def JobState.place : JobState → Nat
  | .locking => 0
  | .reading => 1
  | .computing => 2
  | .writing => 3
  | .complete => 4
  | .failed => 5

/-- Its place in the list of R146. -/
def LostCause.place : LostCause → Nat
  | .unrecoverableRow => 0
  | .loaded => 1

/-- Its place in the list of R159. -/
def StoreState.place : StoreState → Nat
  | .scanning => 0
  | .ready => 1
  | .programming => 2
  | .erasing => 3
  | .faulted => 4

/-- Its place in the list of R159. -/
def Classification.place : Classification → Nat
  | .valid => 0
  | .retired => 1

/-- Its place in the list of R159. -/
def StoreStatus.place : StoreStatus → Nat
  | .normal => 0
  | .programError => 1
  | .eraseError => 2
  | .worn => 3

/-- The place of a code in Table 10-2 (log 14). -/
def ErrorCode.place : ErrorCode → Nat
  | .mediumRead => 0
  | .mediumWrite => 1
  | .device => 2
  | .timeout => 3
  | .unmatchedCompletion => 4
  | .probeFail => 5
  | .dataParity => 6
  | .tagParity => 7
  | .frameCheck => 8
  | .frameLength => 9
  | .unknownKind => 10
  | .ungrantedData => 11
  | .guardBroken => 12
  | .unguarded => 13
  | .program => 14
  | .erase => 15
  | .worn => 16

/-- The number of a status (R189). -/
def Status.number : Status → Nat
  | .ok => 0x00
  | .unknownRequest => 0x01
  | .badLength => 0x02
  | .badValue => 0x03
  | .tagInUse => 0x04
  | .queueFull => 0x05
  | .notDefined => 0x06
  | .arrayFailed => 0x07
  | .range => 0x08
  | .busy => 0x09
  | .wrongState => 0x0A
  | .unguarded => 0x0B
  | .mismatch => 0x0C
  | .noResume => 0x0D
  | .mediumLost => 0x0E
  | .dataTimeout => 0x0F
  | .cancelled => 0x10
  | .notFound => 0x11
  | .tooSmall => 0x12
  | .channelInUse => 0x13
  | .channelNotReady => 0x14
  | .listFull => 0x15
  | .storeFault => 0x16

/-! ## Parts of reply bodies -/

/-- W, K, B0 and S (R39, Table 9-1). -/
def Geometry.bytes (g : Geometry) : List Byte :=
  bytesOf 1 g.w ++ bytesOf 1 g.k ++ bytesOf 4 g.b0 ++ bytesOf 4 g.s

/-- A position of QUERY-ARRAY (R39). -/
def PosRec.bytes (p : PosRec) : List Byte :=
  bytesOf 1 p.state.place ++ optBytes (fun c => bytesOf 1 c.val) p.channel ++
    optBytes (fun c => bytesOf 1 c.val) p.spare ++ optBytes (fun c => bytesOf 1 c.place) p.cause

/-- A target entry (R136, Table 9-1). -/
def Target.bytes (t : Target) : List Byte :=
  bytesOf 1 t.position ++ bytesOf 1 t.channel.val ++ bytesOf 4 t.start ++ bytesOf 1 t.state.place

/-- A checkpoint record (Table 9-1, R158). -/
def CheckpointRecord.bytes (r : CheckpointRecord) : List Byte :=
  bytesOf 4 r.number ++ r.geom.bytes ++ listBytes Target.bytes r.targets ++ bytesOf 4 r.f ++ bytesOf 4 r.e ++
    bytesOf 1 r.result.place

/-- An entry of LIST-LOST (R152). -/
def LostEntry.bytes (e : LostEntry) : List Byte :=
  bytesOf 1 e.position ++ bytesOf 6 e.first ++ bytesOf 2 e.count ++ bytesOf 1 e.cause.place

/-- The six flags in the order of CACHE-MODE's fields (R75). -/
def modeBytes (m0 m1 : WayMode) : List Byte :=
  flagByte m0.forceMiss ++ flagByte m1.forceMiss ++ flagByte m0.forceReplace ++ flagByte m1.forceReplace ++
    flagByte m0.inject ++ flagByte m1.inject

/-- The reply of QUERY-PASS (R136). -/
def PassReport.bytes (r : PassReport) : List Byte :=
  bytesOf 1 r.state.place ++ optBytes (fun c => bytesOf 1 c.stopPlace) r.stopCause ++ bytesOf 4 r.number ++
    listBytes Target.bytes r.targets ++ bytesOf 4 r.f ++ bytesOf 4 r.n ++ bytesOf 4 r.e ++
    bytesOf 1 r.lastResult.place ++ bytesOf 4 r.rowsReconstructed ++ bytesOf 4 r.rowsUnrecoverable ++
    bytesOf 4 r.repairs ++ listBytes (fun j => bytesOf 4 j.1 ++ bytesOf 1 j.2.place) r.jobs

/-- The reply of QUERY-CHANNEL (R59). A queue's length is given two bytes. -/
def ChannelReport.bytes (r : ChannelReport) : List Byte :=
  bytesOf 1 r.state.place ++ flagByte r.presence ++ bytesOf 1 r.use.place ++ optBytes (bytesOf 1) r.position ++
    optBytes (bytesOf 6) r.capacity ++ bytesOf 1 r.foregroundSlots ++ bytesOf 1 r.rebuildSlots ++
    flagByte r.probe ++ bytesOf 2 r.foregroundQueue ++ bytesOf 2 r.rebuildQueue ++ bytesOf 2 r.timeout ++
    flagByte r.autoFail ++ bytesOf 1 r.share

/-- The reply of QUERY-STORE (R168). -/
def StoreReport.bytes (r : StoreReport) : List Byte :=
  bytesOf 1 r.state.place ++ bytesOf 1 r.classification.place ++ flagByte r.wornFlag ++
    bytesOf 2 r.eraseCount ++ bytesOf 1 r.status.place ++ bytesOf 1 r.blank ++ bytesOf 1 r.written ++
    bytesOf 1 r.torn ++
    optBytes (fun e => bytesOf 1 e.1 ++ bytesOf 4 e.2.1 ++ bytesOf 1 e.2.2.place) r.latest ++
    optBytes (bytesOf 1) r.nextFree ++ flagByte r.recordPending ++ bytesOf 2 r.interval

/-- The two bytes of a command kind (R173). -/
def kindBytes : Option ErrorKind → List Byte
  | none => [0x00, 0x00]
  | some .capacity => [0x01, 0]
  | some .read => [0x01, 1]
  | some .write => [0x01, 2]
  | some .lookup => [0x01, 3]
  | some .slotProgram => [0x01, 4]
  | some .eraseCycle => [0x01, 5]
  | some (.frame kind) => [0x02, kind]
  | some (.request code) => 0x03 :: bytesOf 1 code

/-- The five bytes of an owner (R173). -/
def ownerBytes : Option ErrorOwner → List Byte
  | none => 0x00 :: bytesOf 4 0
  | some (.request tag) => 0x01 :: bytesOf 4 tag
  | some (.passPosition k) => 0x02 :: bytesOf 4 k
  | some (.passNumber n) => 0x03 :: bytesOf 4 n

/-- The fields of an error record (Table 10-1), after valid and overflow. -/
def ErrorFields.bytes (e : ErrorFields) : List Byte :=
  flagByte e.uncorrected ++ flagByte e.block.isSome ++ bytesOf 1 e.code.place ++ optBytes (bytesOf 6) e.block ++
    bytesOf 2 e.count ++ kindBytes e.kind ++ ownerBytes e.owner

/-- The fields of an error record while valid is clear (R173): flags, code and count cleared, block, command
kind and owner absent (log 14). -/
def clearedRecordBytes : List Byte :=
  flagByte false ++ flagByte false ++ bytesOf 1 0 ++ bytesOf 2 0 ++ kindBytes none ++ ownerBytes none

/-- The reply of QUERY-BANK (R179): the auto-fail enable of a channel bank alone. -/
def Bank.bytes (b : Bank) (isChannel : Bool) : List Byte :=
  flagByte b.record.isSome ++ flagByte b.overflow ++
    (b.record.map ErrorFields.bytes).getD clearedRecordBytes ++
    bytesOf 2 b.counter ++ flagByte b.reached ++ flagByte b.report ++
    (if isChannel then flagByte b.autoFail else [])

/-- A text: its length in one byte and the codes of its characters (R193). -/
def textBytes (t : List Nat) : List Byte := bytesOf 1 t.length ++ t.flatMap (bytesOf 1)

/-- "KESTRUM" (R193) in ASCII codes: the spec names the characters and no code for them (log 14). -/
def vendorText : List Nat := [0x4B, 0x45, 0x53, 0x54, 0x52, 0x55, 0x4D]
/-- "ELSARET 2640" (R193) in ASCII codes, as the vendor text (log 14). -/
def partText : List Nat := [0x45, 0x4C, 0x53, 0x41, 0x52, 0x45, 0x54, 0x20, 0x32, 0x36, 0x34, 0x30]

/-- The reply of IDENTIFY (R193). The constants of the part have one byte, or two above 255 (log 14). -/
def identityBytes : List Byte :=
  textBytes vendorText ++ textBytes partText ++ bytesOf 1 Config.revision ++ bytesOf 1 12 ++ bytesOf 1 11 ++
    bytesOf 1 Config.requestEntries ++ bytesOf 1 Config.lockEntries ++ bytesOf 1 Config.windowJobs ++
    bytesOf 1 4 ++ bytesOf 2 512 ++ bytesOf 2 Config.maxLostLimit ++ bytesOf 1 64 ++ bytesOf 1 15 ++
    bytesOf 1 8 ++ bytesOf 2 Config.maxBody ++ bytesOf 2 Config.maxExtent

/-- The body of a reply (R189 and the owning chapters). The positions of QUERY-ARRAY carry no count byte,
READ-CHECKPOINT with no record has an empty body, and the attention set of QUERY-ATTENTION and CLEAR-ATTENTION has one
byte, bit n for class n (log 14). -/
def ReplyBody.bytes : ReplyBody → List Byte
  | .empty => []
  | .identity => identityBytes
  | .extent done lost first => bytesOf 2 done ++ bytesOf 2 lost ++ optBytes (bytesOf 6) first
  | .share r => bytesOf 1 r
  | .timeout ms => bytesOf 2 ms
  | .cache m0 m1 n0 n1 => modeBytes m0 m1 ++ bytesOf 2 n0 ++ bytesOf 2 n1
  | .lostEntries count limit es => bytesOf 2 count ++ bytesOf 2 limit ++ listBytes LostEntry.bytes es
  | .loaded taken count => bytesOf 1 taken ++ bytesOf 2 count
  | .dropped removed count => bytesOf 4 removed ++ bytesOf 2 count
  | .lostLimit limit => bytesOf 2 limit
  | .checkpoint latest => optBytes (fun e => bytesOf 1 e.1 ++ e.2.bytes) latest
  | .eraseCount n => bytesOf 2 n
  | .interval i => bytesOf 2 i
  | .array state lacking d =>
    bytesOf 1 state.place ++
      optBytes (fun d => bytesOf 1 lacking ++ d.geom.bytes ++ d.positions.flatMap PosRec.bytes) d
  | .pass r => r.bytes
  | .channel r => r.bytes
  | .bank b isChannel => b.bytes isChannel
  | .store r => r.bytes
  | .attention latched highest waiting => [latched] ++ optBytes (bytesOf 1) highest ++ flagByte waiting
  | .overflow v => flagByte v
  | .counter n => bytesOf 2 n
  | .attentionSet latched => [latched]

/-- The bytes of a block, from byte 0 on. -/
def Block.bytes (b : Block) : List Byte := (List.range 4096).map (Block.byte b)

/-- The body of a DATA frame (Table 11-2): its index, and the block if it is not LOST. -/
def dataBody (index : Nat) (block : Option Block) : List Byte :=
  match block with
  | some b => bytesOf 2 index ++ [0x00] ++ Block.bytes b
  | none => bytesOf 2 index ++ [0x01]

/-- The bytes of a frame the part sends (Tables 11-1 and 11-2). -/
def Frame.bytes : Frame → List Byte
  | .reply tag status body => frameBytes 0x02 tag status.number body.bytes
  | .data tag index block => frameBytes 0x03 tag 0 (dataBody index block)
  | .grant tag first count index => frameBytes 0x04 tag 0 (bytesOf 6 first ++ bytesOf 2 count ++ bytesOf 2 index)
  | .notice latched highest => frameBytes 0x05 0 0 (latched :: bytesOf 1 highest)

end Sys2Proof.Machine
end

