-- ==== Sys2Proof/Machine/Receive.lean ====
section
/-! DEFINITION. The bytes of a received frame read into the command it brings (spec/11, R186 to R188), and the
bytes of the frames a host sends (the layouts of R186 and of the owning chapters). -/

namespace Sys2Proof.Machine

/-! ## Reading fields -/

/-- The number that a run of bytes carries, high byte first (R186). -/
def numberOf (bs : List Byte) : Nat := bs.foldl (fun acc b => acc * 256 + b.toNat) 0

/-- The field of n bytes at an offset of a body. -/
def field (body : List Byte) (offset n : Nat) : Nat := numberOf ((body.drop offset).take n)

/-- A request of a body of n bytes; absent when the body has another length (R188, check 3). -/
def sized (body : List Byte) (n : Nat) (i : Instr) : Option Instr := if body.length = n then some i else none

/-- The block that 4096 bytes carry, from byte 0 on. -/
def blockOf (bs : List Byte) : Block := BitVec.ofNat blockBits (bs.foldr (fun b acc => b.toNat + 256 * acc) 0)

/-- The position entries of DEFINE-ARRAY (R25). -/
def entriesOf (body : List Byte) (w : Nat) : List PositionEntry :=
  (List.range w).map fun i => { state := field body (10 + 2 * i) 1, channel := field body (11 + 2 * i) 1 }

/-- DEFINE-ARRAY: with W = 0 any body of one byte or more (R188). B0 has four bytes (log 14). -/
def readDefine (tag : Nat) (body : List Byte) : Option Instr :=
  let w := field body 0 1
  if body = [] then none
  else if w = 0 then some (.defineArray tag 0 0 0 0 [])
  else
    sized body (10 + 2 * w)
      (.defineArray tag w (field body 1 1) (field body 2 4) (field body 6 4) (entriesOf body w))

/-- The positions of START-REBUILD (R130). -/
def positionsOf (body : List Byte) (n : Nat) : List Nat := (List.range n).map fun i => field body (1 + i) 1

/-- The extents of LOAD-LOST (R153). -/
def extentsOf (body : List Byte) (n : Nat) : List LostExtent :=
  (List.range n).map fun i =>
    { position := field body (1 + 11 * i) 1, first := field body (2 + 11 * i) 6,
      count := field body (8 + 11 * i) 4 }

/-- The request of a code and body; absent for an unknown code or a wrong body length (R188). -/
def readRequest (tag code : Nat) (body : List Byte) : Option Instr :=
  match code with
  | 0x01 => sized body 0 (.identify tag)
  | 0x10 => readDefine tag body
  | 0x11 => sized body 1 (.failMember tag (field body 0 1))
  | 0x12 => sized body 2 (.assignSpare tag (field body 0 1) (field body 1 1))
  | 0x13 => sized body 2 (.returnMember tag (field body 0 1) (field body 1 1))
  | 0x18 => sized body 2 (.guard tag (field body 0 1) (field body 1 1))
  | 0x20 => sized body (1 + field body 0 1) (.startRebuild tag (positionsOf body (field body 0 1)))
  | 0x21 => sized body 1 (.addTarget tag (field body 0 1))
  | 0x22 => sized body 0 (.pauseRebuild tag)
  | 0x23 => sized body 0 (.continueRebuild tag)
  | 0x24 => sized body 0 (.abortRebuild tag)
  | 0x25 => sized body 0 (.resumeRebuild tag)
  | 0x30 => sized body 8 (.readExtent tag (field body 0 6) (field body 6 2))
  | 0x31 => sized body 8 (.writeExtent tag (field body 0 6) (field body 6 2))
  | 0x32 => sized body 2 (.cancel tag (field body 0 2))
  | 0x40 => sized body 1 (.setShare tag (field body 0 1))
  | 0x41 => sized body 4 (.setChannel tag (field body 0 1) (field body 1 2) (field body 3 1))
  | 0x42 => sized body 1 (.resetChannel tag (field body 0 1))
  | 0x43 =>
    sized body 6 (.cacheMode tag (field body 0 1) (field body 1 1) (field body 2 1) (field body 3 1)
      (field body 4 1) (field body 5 1))
  | 0x50 => sized body 2 (.listLost tag (field body 0 2))
  | 0x51 => sized body (1 + 11 * field body 0 1) (.loadLost tag (extentsOf body (field body 0 1)))
  | 0x52 => sized body 13 (.dropLost tag (field body 0 1) (field body 1 6) (field body 7 6))
  | 0x53 => sized body 2 (.setLostLimit tag (field body 0 2))
  | 0x58 => sized body 0 (.readCheckpoint tag)
  | 0x59 => sized body 0 (.eraseCheckpoints tag)
  | 0x5A => sized body 4 (.setInterval tag (field body 0 4))
  | 0x60 => sized body 0 (.queryArray tag)
  | 0x61 => sized body 0 (.queryPass tag)
  | 0x62 => sized body 1 (.queryChannel tag (field body 0 1))
  | 0x63 => sized body 1 (.queryBank tag (field body 0 1))
  | 0x64 => sized body 0 (.queryStore tag)
  | 0x65 => sized body 0 (.queryAttention tag)
  | 0x70 => sized body 2 (.clearBank tag (field body 0 1) (field body 1 1))
  | 0x71 => sized body 4 (.setThreshold tag (field body 0 1) (field body 1 2) (field body 3 1))
  | 0x72 => sized body 1 (.clearAttention tag (body.getD 0 0))
  | 0x7F => sized body 0 (.restart tag)
  | _ => none

/-- What a REQUEST frame brings (R188). -/
def receiveRequest (tag code : Nat) (body : List Byte) : Instr :=
  if tag = 0 then .unknownRequest tag code
  else (readRequest tag code body).getD (.unknownRequest tag code)

/-- What a DATA frame brings (R187, check 4). -/
def receiveData (tag : Nat) (body : List Byte) : Instr :=
  if body.length = 4099 ∧ field body 2 1 = 0 then .data tag (field body 0 2) (some (blockOf (body.drop 3)))
  else if body.length = 3 ∧ field body 2 1 = 1 then .data tag (field body 0 2) none
  else .frameDiscarded .dataBody

/-- The command that a received frame brings (R187, R188): its kind at byte 0, its tag at 1, its code at 3, its
body length at 4, its body from 6 on, and its CRC at the end. -/
def receive (frame : List Byte) : Instr :=
  let inner := frame.take (frame.length - 2)
  let body := inner.drop 6
  let kind := field frame 0 1
  let tag := field frame 1 2
  if frame.length < 8 then .frameDiscarded .frameCheck
  else if numberOf (frame.drop (frame.length - 2)) ≠ (crcOf inner).toNat then .frameDiscarded .frameCheck
  else if Config.maxBody < field frame 4 2 ∨ field frame 4 2 ≠ body.length then
    .frameDiscarded (.length (frame.getD 0 0))
  else if kind = 0x01 then receiveRequest tag (field frame 3 1) body
  else if kind = 0x03 then receiveData tag body
  else .frameDiscarded (.unknownKind tag)

/-! ## The frames of a host -/

/-- A REQUEST frame. -/
def requestFrame (tag code : Nat) (body : List Byte) : Option (List Byte) := some (frameBytes 0x01 tag code body)

/-- The frame by which a host sends a command; absent for an event that no frame brings. -/
def hostFrame : Instr → Option (List Byte)
  | .data tag index block => some (frameBytes 0x03 tag 0 (dataBody index block))
  | .identify tag => requestFrame tag codeIdentify []
  | .defineArray tag w k b0 s es =>
    requestFrame tag codeDefineArray
      (if w = 0 then bytesOf 1 0
      else bytesOf 1 w ++ bytesOf 1 k ++ bytesOf 4 b0 ++ bytesOf 4 s ++
        es.flatMap fun e => bytesOf 1 e.state ++ bytesOf 1 e.channel)
  | .failMember tag x => requestFrame tag codeFailMember (bytesOf 1 x)
  | .assignSpare tag x c => requestFrame tag codeAssignSpare (bytesOf 1 x ++ bytesOf 1 c)
  | .returnMember tag x c => requestFrame tag codeReturnMember (bytesOf 1 x ++ bytesOf 1 c)
  | .guard tag code x => requestFrame tag codeGuard (bytesOf 1 code ++ bytesOf 1 x)
  | .startRebuild tag xs => requestFrame tag codeStartRebuild (listBytes (bytesOf 1) xs)
  | .addTarget tag x => requestFrame tag codeAddTarget (bytesOf 1 x)
  | .pauseRebuild tag => requestFrame tag codePauseRebuild []
  | .continueRebuild tag => requestFrame tag codeContinueRebuild []
  | .abortRebuild tag => requestFrame tag codeAbortRebuild []
  | .resumeRebuild tag => requestFrame tag codeResumeRebuild []
  | .readExtent tag l n => requestFrame tag codeReadExtent (bytesOf 6 l ++ bytesOf 2 n)
  | .writeExtent tag l n => requestFrame tag codeWriteExtent (bytesOf 6 l ++ bytesOf 2 n)
  | .cancel tag target => requestFrame tag codeCancel (bytesOf 2 target)
  | .setShare tag v => requestFrame tag codeSetShare (bytesOf 1 v)
  | .setChannel tag c ms a => requestFrame tag codeSetChannel (bytesOf 1 c ++ bytesOf 2 ms ++ bytesOf 1 a)
  | .resetChannel tag c => requestFrame tag codeResetChannel (bytesOf 1 c)
  | .cacheMode tag a b c d e f =>
    requestFrame tag codeCacheMode
      (bytesOf 1 a ++ bytesOf 1 b ++ bytesOf 1 c ++ bytesOf 1 d ++ bytesOf 1 e ++ bytesOf 1 f)
  | .listLost tag start => requestFrame tag codeListLost (bytesOf 2 start)
  | .loadLost tag es =>
    requestFrame tag codeLoadLost
      (listBytes (fun e => bytesOf 1 e.position ++ bytesOf 6 e.first ++ bytesOf 4 e.count) es)
  | .dropLost tag x m n => requestFrame tag codeDropLost (bytesOf 1 x ++ bytesOf 6 m ++ bytesOf 6 n)
  | .setLostLimit tag v => requestFrame tag codeSetLostLimit (bytesOf 2 v)
  | .readCheckpoint tag => requestFrame tag codeReadCheckpoint []
  | .eraseCheckpoints tag => requestFrame tag codeEraseCheckpoints []
  | .setInterval tag v => requestFrame tag codeSetInterval (bytesOf 4 v)
  | .queryArray tag => requestFrame tag codeQueryArray []
  | .queryPass tag => requestFrame tag codeQueryPass []
  | .queryChannel tag c => requestFrame tag codeQueryChannel (bytesOf 1 c)
  | .queryBank tag b => requestFrame tag codeQueryBank (bytesOf 1 b)
  | .queryStore tag => requestFrame tag codeQueryStore []
  | .queryAttention tag => requestFrame tag codeQueryAttention []
  | .clearBank tag b o => requestFrame tag codeClearBank (bytesOf 1 b ++ bytesOf 1 o)
  | .setThreshold tag b n e => requestFrame tag codeSetThreshold (bytesOf 1 b ++ bytesOf 2 n ++ bytesOf 1 e)
  | .clearAttention tag seen => requestFrame tag codeClearAttention [seen]
  | .restart tag => requestFrame tag codeRestart []
  | .coldStart _ _ => none
  | .checkpointScanEnd => none
  | .frameDiscarded _ => none
  | .unknownRequest _ _ => none
  | .frameTransmitted => none
  | .insertion _ => none
  | .removal _ => none
  | .capacityCompletion _ _ _ => none
  | .probeAllowanceExpiry _ => none
  | .readCompletion _ _ _ => none
  | .writeCompletion _ _ _ => none
  | .unmatchedCompletion _ _ _ => none
  | .completionDiscarded _ _ _ => none
  | .commandTimeout _ _ => none
  | .dataWaitExpiry _ => none
  | .slotProgramEnd _ _ => none
  | .slotProgramTimeout _ => none
  | .retireCellProgrammed _ _ => none
  | .eraseEnd _ _ => none
  | .openCellProgrammed _ _ => none
  | .eraseStepTimeout _ => none
  | .receivedFrameNotTaken => none

end Sys2Proof.Machine
end

