-- ==== Sys2Proof/Safety.lean ====
section
/-! DEFINITION. What counts as a sound state and a safe run, in the terms the claims use. -/

namespace Sys2Proof.Machine

/-- The outcome of a command that neither faults nor is refused. -/
def Completes (o : Host.Outcome State Fault Refusal) : Prop := ∃ t, o = .next t

/-- The ALI takes a request of a tag, and no guard is held (R188, R191). -/
def State.Open (s : State) (tag : Nat) : Prop := s.ali.taking = true ∧ tag ≠ 0 ∧ s.ali.guard = none

/-- The ALI takes a request of a tag, and the guard record names it (R190, R191). -/
def State.GuardedBy (s : State) (tag code : Nat) (position : Option Nat) : Prop :=
  s.ali.taking = true ∧ tag ≠ 0 ∧ s.ali.guard = some { code := code, position := position }

/-- The ALI takes a QUERY of a tag, whatever legal guard is held (R190, R191). -/
def State.Asked (s : State) (tag : Nat) : Prop :=
  s.ali.taking = true ∧ tag ≠ 0 ∧ ∀ g, s.ali.guard = some g → guardableCodes.contains g.code = true

/-! ## The Lost Extent List (R146) -/

/-- One entry lies before another: ascending, and without overlap. -/
def LostEntry.Before (a b : LostEntry) : Prop :=
  a.position < b.position ∨ (a.position = b.position ∧ a.stop ≤ b.first)

/-- Entries in ascending (position, block) order that never overlap, each of 1 to 65535 blocks (R146). -/
def LostEntries (es : List LostEntry) : Prop :=
  es.Pairwise LostEntry.Before ∧ ∀ e ∈ es, 1 ≤ e.count ∧ e.count ≤ 65535

/-- The Lost Extent List as R146 lays it down. -/
def LostList.Sound (l : LostList) : Prop :=
  LostEntries l.entries ∧ l.entries.length ≤ l.limit ∧ 16 ≤ l.limit ∧ l.limit ≤ 256

/-- Two entries that R148 joins: the second begins at the block after the first, with the same position and cause, and
their sum is at most 65535. -/
def LostEntry.Joins (a b : LostEntry) : Prop :=
  a.position = b.position ∧ a.cause = b.cause ∧ a.stop = b.first ∧ a.count + b.count ≤ 65535

/-- The list es' that placing a piece e in a list es leaves (R148, steps 2 and 3): the piece is joined to the entry that
ends before it where they join, the result to the entry that begins after it where they join, and what has come of it
stands in order. -/
def LostEntry.PlacedIn (e : LostEntry) (es es' : List LostEntry) : Prop :=
  ∃ (low high kept : List LostEntry) (e1 : LostEntry), es = low ++ high ∧
    (∀ a ∈ low, a.Before e) ∧ (∀ a ∈ high, e.Before a) ∧
    ((∃ a, low = kept ++ [a] ∧ a.Joins e ∧ e1 = { a with count := a.count + e.count }) ∨
      (kept = low ∧ e1 = e ∧ ∀ init a, low = init ++ [a] → ¬a.Joins e)) ∧
    ((∃ a rest, high = a :: rest ∧ e1.Joins a ∧ es' = kept ++ { e1 with count := e1.count + a.count } :: rest) ∨
      (es' = kept ++ e1 :: high ∧ ∀ a rest, high = a :: rest → ¬e1.Joins a))

/-! ## The Stripe Lock Table (R78, R82, R85, R86) -/

/-- A lock entry: it has a holder, an EXCLUSIVE one exactly one, and a SHARED one no SHARED waiter at the
head of its queue. -/
def LockEntry.Sound (e : LockEntry) : Prop :=
  e.holders ≠ [] ∧ (e.mode = .exclusive → e.holders.length = 1) ∧
    (e.mode = .shared → ∀ w ws, e.waiters = w :: ws → w.mode = .exclusive)

/-- The lock table: at most 48 entries, one for each stripe; requests stand in the table-full queue only while
every entry is in use, and only for stripes without an entry. -/
def LockTable.Sound (t : LockTable) : Prop :=
  (∀ e ∈ t.entries, e.Sound) ∧ (t.entries.map fun e => e.stripe).Nodup ∧ t.entries.length ≤ 48 ∧
    (t.fullQueue ≠ [] → t.entries.length = 48) ∧
    ∀ w ∈ t.fullQueue, ∀ e ∈ t.entries, e.stripe ≠ w.stripe

/-! ## Channels -/

/-- A channel's record after it has taken to probing a drive afresh, with presence as given (R43, R47, R48). -/
def Channel.Probing (ch : Channel) (presence : Bool) : Channel :=
  { state := .probing, presence := presence, capacity := none,
    slots := (Vec.replicate 4 none).set 0 (some { tag := ch.tagCounter, allowance := 30000, work := .probe }),
    foreground := [], rebuild := [], timeout := ch.timeout, tagCounter := (ch.tagCounter + 1) % 65536 }

/-- A channel's record with no drive (R31, R45). -/
def Channel.Emptied (ch : Channel) : Channel :=
  { state := .empty, presence := false, capacity := none, slots := Vec.replicate 4 none, foreground := [],
    rebuild := [], timeout := ch.timeout, tagCounter := ch.tagCounter }

/-- A channel's record after the position that it held has failed with its drive in place (R35, R46). -/
def Channel.Offline (ch : Channel) : Channel :=
  { state := .offline, presence := ch.presence, capacity := ch.capacity, slots := Vec.replicate 4 none,
    foreground := [], rebuild := [], timeout := ch.timeout, tagCounter := ch.tagCounter }

/-! ## Causes and lookups (R10, R65 to R67) -/

/-- The causes of an erasure in the order of Table 1-8. -/
def causeOrder : List ErasureCause := [.unavailable, .notRead, .medium, .device, .timeout, .positionFailed, .listed]

/-- A compared way holds a block with good parities (R65). -/
def BufferStore.Holds (b : BufferStore) (x m : Nat) (w : Way) (contents : Block) : Prop :=
  (b.mode w).forceMiss = false ∧ ∃ l, (b.sets.get (setOf x m)).line w = some l ∧
    l.tagParity = tagParityOf l.position l.block ∧ l.position = x ∧ l.block = m ∧
    l.dataParity = Block.parity l.contents ∧ l.contents = contents

/-- A compared way holds a block whose data fails its parity (R67). -/
def BufferStore.BadData (b : BufferStore) (x m : Nat) (w : Way) : Prop :=
  (b.mode w).forceMiss = false ∧ ∃ l, (b.sets.get (setOf x m)).line w = some l ∧
    l.tagParity = tagParityOf l.position l.block ∧ l.position = x ∧ l.block = m ∧
    l.dataParity ≠ Block.parity l.contents

/-- A compared way of a block's set holds a line whose tag fails its parity (R66). -/
def BufferStore.BadTag (b : BufferStore) (x m : Nat) (w : Way) : Prop :=
  (b.mode w).forceMiss = false ∧ ∃ l, (b.sets.get (setOf x m)).line w = some l ∧
    l.tagParity ≠ tagParityOf l.position l.block

/-! ## Segments (R7, R96, R104, R107) -/

/-- Pairs of position and row in ascending order, each once (log 11). -/
def Ascending (ps : List (Nat × Nat)) : Prop := ps.Pairwise fun a b => a.1 < b.1 ∨ (a.1 = b.1 ∧ a.2 < b.2)

/-- A row that the current segment touches (R7). -/
def ExtentReq.Touches (r : ExtentReq) (g : Geometry) (row : Nat) : Prop :=
  row < g.k ∧ ∃ b ∈ r.blocks g, b.row = row

/-- A block that the current segment reads or writes: position and row. -/
def ExtentReq.Names (r : ExtentReq) (g : Geometry) (x row : Nat) : Prop :=
  ∃ b ∈ r.blocks g, b.position = x ∧ b.row = row

/-- A position of P or Q of the current segment's stripe (R3). -/
def ExtentReq.ParityOn (r : ExtentReq) (g : Geometry) (x : Nat) : Prop :=
  x = g.posP (r.stripe g) ∨ x = g.posQ (r.stripe g)

/-- A block of the write set under a method, as Table 6-2 lays it down (R104). -/
def State.Writes (s : State) (r : ExtentReq) (g : Geometry) (m : WriteMethod) (x row : Nat) : Prop :=
  x < g.w ∧ r.Touches g row ∧ s.available x (r.stripe g) = true ∧
    (r.ParityOn g x ∧ (m = .readModify → s.lel.listed x (g.memberBlock (r.stripe g) row) = false) ∨
      ¬r.ParityOn g x ∧ r.Names g x row)

/-- A touched row with P or Q in the write set: it needs old blocks (R106, R107). -/
def ExtentReq.NeedsOld (r : ExtentReq) (g : Geometry) (row : Nat) : Prop :=
  r.Touches g row ∧ ∃ x, r.ParityOn g x ∧ (x, row) ∈ r.work.writeSet

/-- An untouched data block of a row that needs it (R107). -/
def ExtentReq.Keeps (r : ExtentReq) (g : Geometry) (x row : Nat) : Prop :=
  x < g.w ∧ r.NeedsOld g row ∧ ¬r.ParityOn g x ∧ ¬r.Names g x row

/-- The blocks that the first round of a RECONSTRUCT segment seeks, and the cells it adds (R107): the untouched
blocks of which it has no outcome yet. -/
def State.FirstRound (s : State) (r r1 : ExtentReq) (g : Geometry) (wanted : List (Nat × Nat)) : Prop :=
  Ascending wanted ∧
  (∀ x row, (x, row) ∈ wanted ↔
    r1.Keeps g x row ∧ cellAt r.work.cells x row = none ∧ s.available x (r.stripe g) = true) ∧
  ∀ x row c, cellAt r1.work.cells x row = some c ↔ cellAt r.work.cells x row = some c ∨
    (cellAt r.work.cells x row = none ∧ r1.Keeps g x row ∧ s.available x (r.stripe g) = false ∧
      c = .erased .unavailable)

/-! ## The buffer store and the pass record (R64, R117, R121) -/

/-- Every valid line names a position that is available for the line's stripe (R64). -/
def State.LinesAvailable (s : State) : Prop :=
  ∀ i w l, (s.cbs.sets.get i).line w = some l →
    ∃ g, s.geom = some g ∧ s.available l.position (g.memberStripe l.block) = true

/-- The window of a pass holds the jobs from F to N - 1 in order, and an IDLE pass has no target and no job (R117,
R121, R127). -/
def PassRecord.Sound (p : PassRecord) : Prop :=
  (p.state = .idle → p.targets = [] ∧ p.window = []) ∧
    (p.state ≠ .idle → p.n = p.f + p.window.length ∧
      p.window.map (fun j => j.k) = (List.range p.window.length).map fun i => p.f + i)

/-- What every step keeps of the buffer store (R64). -/
def State.BufferSound (s : State) : Prop := s.LinesAvailable ∧ s.rbc.Sound

end Sys2Proof.Machine
end

