-- ==== Sys2Proof/Certificates/Slice0/Obligations.lean ====
section
/-! DEFINITION. The statements for the provers. Each names the rules of spec/ it rests on; a statement that
holds of a choice of the model names the log entry. A statement of a command's result gives its whole next
state, so that everything it does not name is unchanged. -/

section
open Sys2Proof Sys2Proof.Machine

/-! ## The machine -/

/-- The command at the front of the queue is run on the state with the rest of the queue (log 5). -/
def Obligations.StepRunsFrontCommand : Prop :=
  ∀ (c : Instr) (rest : List Instr) (s : State), s.pending = c :: rest → step s = exec c (s.withPending rest)

/-- No step faults or is refused, and an empty queue leaves the part as it is (log 5, log 6). -/
def Obligations.StepAlwaysContinues : Prop :=
  (∀ s : State, Completes (step s)) ∧ ∀ s : State, s.pending = [] → step s = .next s

/-- The geometry changes at an accepted DEFINE-ARRAY and a cold start only (R20, R40, R41). -/
def Obligations.GeometryFixedBetweenDefinitions : Prop :=
  ∀ (c : Instr) (s t : State), exec c s = .next t →
    (∀ tag w k b0 stripes es, c ≠ .defineArray tag w k b0 stripes es) → (∀ p l, c ≠ .coldStart p l) →
    t.geom = s.geom

/-! ## Geometry, parity and availability (spec/01, spec/02) -/

/-- The stripe, data index and row of an array block, the positions of a stripe, and the member block of a row (R2 to
R4). From an array block to its position and member block, and back to the block; and from a member block that
holds data to its array block and back. A block of P or Q, and a member block outside the member data range, has no
place in the array (R5). The segments of an extent hold its blocks in order, each with its index in the request, its row
and its position, and all of one segment lie in its stripe (R7). -/
def Obligations.ArrayBlockRoundTrip : Prop :=
  (∀ (g : Geometry) (l s d row : Nat),
    g.stripeOf l = l / (g.k * (g.w - 2)) ∧ g.dataIndexOf l = l % (g.k * (g.w - 2)) / g.k ∧
    g.rowOf l = l % (g.k * (g.w - 2)) % g.k ∧ g.capacity = g.s * g.k * (g.w - 2) ∧
    g.posP s = g.w - 1 - s % g.w ∧ g.posQ s = (g.posP s + 1) % g.w ∧ g.posData s d = (g.posQ s + 1 + d) % g.w ∧
    g.memberBlock s row = g.b0 + s * g.k + row) ∧
  (∀ (g : Geometry) (l : Nat), g.valid = true → l < g.capacity →
    g.memberToArray (g.posData (g.stripeOf l) (g.dataIndexOf l)) (g.memberBlock (g.stripeOf l) (g.rowOf l)) =
      some l) ∧
  (∀ (g : Geometry) (r : ExtentReq) (seg : Nat → ExtentReq), g.valid = true → 1 ≤ r.count →
    r.first + r.count ≤ g.capacity → (∀ i, seg i = { r with segment := i }) →
    ((List.range (g.segments r.first r.count)).flatMap fun i => ((seg i).blocks g).map fun b => b.array) =
      (List.range r.count).map (fun j => r.first + j) ∧
    ∀ i < g.segments r.first r.count,
      ((seg i).blocks g).head?.map (fun b => b.array) = some (g.segFirst r.first i) ∧
      (seg i).stripe g = g.stripeOf r.first + i ∧
      ∀ b ∈ (seg i).blocks g, b.index = b.array - r.first ∧ g.stripeOf b.array = (seg i).stripe g ∧
        b.row = g.rowOf b.array ∧ b.position = g.posData (g.stripeOf b.array) (g.dataIndexOf b.array)) ∧
  ∀ (g : Geometry) (x m : Nat), g.valid = true → x < g.w →
    (∀ l, g.memberToArray x m = some l → l < g.capacity ∧
      g.posData (g.stripeOf l) (g.dataIndexOf l) = x ∧ g.memberBlock (g.stripeOf l) (g.rowOf l) = m) ∧
    (g.memberToArray x m = none ↔ m < g.b0 ∨ g.b0 + g.s * g.k ≤ m ∨
      x = g.posP (g.memberStripe m) ∨ x = g.posQ (g.memberStripe m))

/-- Every byte other than 0 has one inverse, and the constant table of R12 holds what it says: powers of 2, their
inverses, and the inverses of the sums of two of them. -/
def Obligations.CoefficientTables : Prop :=
  (∀ a : Byte, a ≠ 0 → ∃ c, gfMul a c = 1 ∧ ∀ c', gfMul a c' = 1 → c' = c) ∧
    (∀ d < 9, coefficient d = gfPow d 1 ∧ gfMul (coefficient d) (inverseCoefficient d) = 1) ∧
    ∀ x < 9, ∀ y < 9, x < y → coefficient x ^^^ coefficient y ≠ 0 ∧
      gfMul (pairFactor x y) (coefficient x ^^^ coefficient y) = 1

/-- Whatever two blocks of a row are missing, reconstruction gives the row's data, P and Q; a row that lacks
three is UNRECOVERABLE (R13 to R17). -/
def Obligations.ReconstructionRecoversTwo : Prop :=
  (∀ (data : List Block) (r : Row), 2 ≤ data.length → data.length ≤ 9 → r.data.length = data.length →
    (∀ d b, d < data.length → r.data.getD d none = some b → data.getD d Block.zero = b) →
    (∀ b, r.p = some b → b = (encode data).1) → (∀ b, r.q = some b → b = (encode data).2) →
    r.erasedCount ≤ 2 →
    reconstruct r = some { data := data, p := (encode data).1, q := (encode data).2 }) ∧
  ∀ r : Row, 2 < r.erasedCount → reconstruct r = none

/-- A delta update of P and Q by one data block gives what encoding the changed row gives (R18, R13). -/
def Obligations.DeltaAgreesWithEncoding : Prop :=
  ∀ (data : List Block) (d : Nat) (b : Block), data.length ≤ 9 → d < data.length →
    encode (data.set d b) =
      (deltaP (encode data).1 (data.getD d Block.zero) b, deltaQ d (encode data).2 (data.getD d Block.zero) b)

/-- A position is available for a stripe while it is IN-SERVICE, or REBUILDING with the stripe covered: the one pass
position of the stripe in its ACTIVE target's range has passed the frontier or has a COMPLETE job (R9, R120). A block of
a row is supplied once one try has obtained it, while it is not listed; else it is an erasure, which records the first of
its causes in the order of Table 1-8, those of every try and LISTED among them (R10). The cause of a block that was never
sought is the model's choice (log 25). -/
def Obligations.AvailabilityAndErasures : Prop :=
  (∀ (s : State) (d : ArrayDef) (x : Nat), s.table.definition = some d →
    (d.positions[x]? = none → ∀ stripe, s.available x stripe = false) ∧
    ∀ p, d.positions[x]? = some p →
      (p.state = .inService → ∀ stripe, s.available x stripe = true) ∧
      (p.state = .failed → ∀ stripe, s.available x stripe = false) ∧
      (p.state = .rebuilding → ∀ stripe < d.geom.s, (s.available x stripe = true ↔
        ∃ t ∈ s.rbc.targets, t.position = x ∧ t.state = .active ∧
          ∃ k, t.start ≤ k ∧ k < t.start + d.geom.s ∧ k % d.geom.s = stripe ∧
            (k < s.rbc.f ∨ ∃ j ∈ s.rbc.window, j.k = k ∧ j.state = .complete)))) ∧
  ∀ (s : State) (g : Geometry) (stripe x row : Nat) (cells : List Cell) (listed obtained : Prop),
    (listed ↔ s.lel.listed x (g.memberBlock stripe row) = true) →
    (obtained ↔ ∃ b, { position := x, row := row, outcome := .good b } ∈ cells) →
    (obtained → ¬listed → s.erasure g stripe cells x row = none ∧ ∃ b, s.supplied g stripe cells x row = some b ∧
      { position := x, row := row, outcome := .good b } ∈ cells) ∧
    (¬obtained ∨ listed → s.supplied g stripe cells x row = none ∧ ∃ cause, s.erasure g stripe cells x row = some cause ∧
      ((∀ o, { position := x, row := row, outcome := o } ∉ cells) →
        cause = if s.available x stripe = true then .notRead else .unavailable) ∧
      (obtained → (∀ e, { position := x, row := row, outcome := .erased e } ∉ cells) → cause = .listed) ∧
      ((∃ e, { position := x, row := row, outcome := .erased e } ∈ cells) →
        { position := x, row := row, outcome := .erased cause } ∈ cells ∧
        ∀ e, { position := x, row := row, outcome := .erased e } ∈ cells →
          causeOrder.idxOf cause ≤ causeOrder.idxOf e)) ∧
    ∀ cause, (x, cause) ∈ (s.erasureSet g stripe cells row).erased ↔
      x < g.w ∧ s.erasure g stripe cells x row = some cause

/-! ## The array link (spec/11) -/

/-- A host's frame, its bytes laid out by R186 and the owning chapters, is received as the command it sends,
with every operand. A DEFINE-ARRAY with W = 0 carries no further field that is read. The bytes of every frame that the
part sends: a number goes high byte first, the remainder of the CRC closes the frame, and a frame received with it leaves
the remainder 0; REPLY, DATA, GRANT and NOTICE have the layout of Tables 11-1 and 11-2, a status and each other named value
goes as its place in its list, and each reply carries the fields that its chapter names, in the order named (R186, R189).
That the set of CLEAR-ATTENTION has one byte and B0 of DEFINE-ARRAY four, that an absent field is left out, that a reply's
flag is 1 while set and 0 while clear, that IDENTIFY's texts are in ASCII codes, and the widths and numbers that log 14
names are the model's choice (log 14). -/
def Obligations.LinkFrames : Prop :=
  (∀ (i : Instr) (bytes : List Byte), i.wf = true → hostFrame i = some bytes →
    (∀ tag k b0 stripes es, i = .defineArray tag 0 k b0 stripes es → k = 0 ∧ b0 = 0 ∧ stripes = 0) →
    receive bytes = i) ∧
  (∀ n v, (bytesOf n v).length = n ∧ (bytesOf n v).foldl (fun acc b => acc * 256 + b.toNat) 0 = v % 256 ^ n) ∧
  (crcOf [] = 0xFFFF ∧
    (∀ bs b, crcOf (bs ++ [b]) = (List.range 8).foldl
      (fun (r : BitVec 16) i => (r <<< 1) ^^^ (if r.msb = b.getMsbD i then 0 else 0x1021)) (crcOf bs)) ∧
    ∀ bs, crcOf (bs ++ bytesOf 2 (crcOf bs).toNat) = 0) ∧
  (∀ framed : Nat → Nat → Nat → List Byte → List Byte,
    (∀ kind tag code body, ∃ inner,
      inner = bytesOf 1 kind ++ bytesOf 2 tag ++ bytesOf 1 code ++ bytesOf 2 body.length ++ body ∧
      framed kind tag code body = inner ++ bytesOf 2 (crcOf inner).toNat) →
    (∀ tag status body,
      (Frame.reply tag status body).bytes = framed 2 tag status.number body.bytes) ∧
    (∀ tag index, (Frame.data tag index none).bytes = framed 3 tag 0 (bytesOf 2 index ++ [0x01])) ∧
    (∀ tag index b, ∃ payload, (Frame.data tag index (some b)).bytes =
        framed 3 tag 0 (bytesOf 2 index ++ [0x00] ++ payload) ∧ payload.length = 4096 ∧
      ∀ i < 4096, payload[i]? = some (b.extractLsb' (8 * i) 8)) ∧
    (∀ tag first count index, (Frame.grant tag first count index).bytes =
      framed 4 tag 0 (bytesOf 6 first ++ bytesOf 2 count ++ bytesOf 2 index)) ∧
    ∀ latched highest, (Frame.notice latched highest).bytes = framed 5 0 0 ([latched] ++ bytesOf 1 highest)) ∧
  ([Status.ok, .unknownRequest, .badLength, .badValue, .tagInUse, .queueFull, .notDefined, .arrayFailed, .range, .busy,
    .wrongState, .unguarded, .mismatch, .noResume, .mediumLost, .dataTimeout, .cancelled, .notFound, .tooSmall,
    .channelInUse, .channelNotReady, .listFull, .storeFault].map Status.number = List.range 23 ∧
    [PosState.inService, .failed, .rebuilding].map PosState.place = List.range 3 ∧
    [FailCause.host, .removed, .writeFailure, .threshold, .spareLost].map FailCause.place = List.range 5 ∧
    [ArrayState.undefined, .normal, .degraded1, .degraded2, .failed].map ArrayState.place = List.range 5 ∧
    [ChannelUse.member, .assignedSpare, .unused].map ChannelUse.place = List.range 3 ∧
    [ChannelState.empty, .probing, .ready, .offline].map ChannelState.place = List.range 4 ∧
    [PassState.idle, .running, .pausing, .paused, .stopping].map PassState.place = List.range 5 ∧
    [PassResult.none, .completed, .abortedByRequest, .abortedListFull, .abortedArrayFailed,
      .abortedTargetsLost].map PassResult.place = List.range 6 ∧
    [PassResult.abortedByRequest, .abortedListFull, .abortedArrayFailed, .abortedTargetsLost].map PassResult.stopPlace =
      List.range 4 ∧
    [TargetState.active, .done, .lost].map TargetState.place = List.range 3 ∧
    [JobState.locking, .reading, .computing, .writing, .complete, .failed].map JobState.place = List.range 6 ∧
    [LostCause.unrecoverableRow, .loaded].map LostCause.place = List.range 2 ∧
    [StoreState.scanning, .ready, .programming, .erasing, .faulted].map StoreState.place = List.range 5 ∧
    [Classification.valid, .retired].map Classification.place = List.range 2 ∧
    [StoreStatus.normal, .programError, .eraseError, .worn].map StoreStatus.place = List.range 4 ∧
    [ErrorCode.mediumRead, .mediumWrite, .device, .timeout, .unmatchedCompletion, .probeFail, .dataParity, .tagParity,
      .frameCheck, .frameLength, .unknownKind, .ungrantedData, .guardBroken, .unguarded, .program, .erase,
      .worn].map ErrorCode.place = List.range 17) ∧
  ∀ (flag : Bool → List Byte) (number : Nat → Option Nat → List Byte) (geometry : Geometry → List Byte)
    (targets : List Target → List Byte),
    (∀ b, flag b = [if b = true then 1 else 0]) →
    (∀ n v, number n (some v) = bytesOf n v) → (∀ n, number n none = []) →
    (∀ g, geometry g = bytesOf 1 g.w ++ bytesOf 1 g.k ++ bytesOf 4 g.b0 ++ bytesOf 4 g.s) →
    (∀ ts, targets ts = bytesOf 1 ts.length ++ ts.flatMap fun a =>
      bytesOf 1 a.position ++ bytesOf 1 a.channel.val ++ bytesOf 4 a.start ++ bytesOf 1 a.state.place) →
    ReplyBody.empty.bytes = [] ∧
    ReplyBody.identity.bytes =
      [7, 0x4B, 0x45, 0x53, 0x54, 0x52, 0x55, 0x4D] ++
      [12, 0x45, 0x4C, 0x53, 0x41, 0x52, 0x45, 0x54, 0x20, 0x32, 0x36, 0x34, 0x30] ++
      bytesOf 1 Config.revision ++ [12, 11, 32, 48, 8, 4, 0x02, 0x00, 0x01, 0x00, 64, 15, 8, 0x10, 0x05, 0x01, 0x00] ∧
    (∀ done lost first, (ReplyBody.extent done lost first).bytes = bytesOf 2 done ++ bytesOf 2 lost ++ number 6 first) ∧
    (∀ r ms l e i n v b, (ReplyBody.share r).bytes = bytesOf 1 r ∧ (ReplyBody.timeout ms).bytes = bytesOf 2 ms ∧
      (ReplyBody.lostLimit l).bytes = bytesOf 2 l ∧ (ReplyBody.eraseCount e).bytes = bytesOf 2 e ∧
      (ReplyBody.interval i).bytes = bytesOf 2 i ∧ (ReplyBody.counter n).bytes = bytesOf 2 n ∧
      (ReplyBody.overflow v).bytes = flag v ∧ (ReplyBody.attentionSet b).bytes = [b]) ∧
    (∀ m0 m1 n0 n1, (ReplyBody.cache m0 m1 n0 n1).bytes =
      flag m0.forceMiss ++ flag m1.forceMiss ++ flag m0.forceReplace ++ flag m1.forceReplace ++ flag m0.inject ++
        flag m1.inject ++ bytesOf 2 n0 ++ bytesOf 2 n1) ∧
    (∀ count limit es, (ReplyBody.lostEntries count limit es).bytes =
      bytesOf 2 count ++ bytesOf 2 limit ++ bytesOf 1 es.length ++ es.flatMap fun e =>
        bytesOf 1 e.position ++ bytesOf 6 e.first ++ bytesOf 2 e.count ++ bytesOf 1 e.cause.place) ∧
    (∀ taken count, (ReplyBody.loaded taken count).bytes = bytesOf 1 taken ++ bytesOf 2 count ∧
      (ReplyBody.dropped taken count).bytes = bytesOf 4 taken ++ bytesOf 2 count) ∧
    (ReplyBody.checkpoint none).bytes = [] ∧
    (∀ i r, (ReplyBody.checkpoint (some (i, r))).bytes =
      bytesOf 1 i ++ (bytesOf 4 r.number ++ geometry r.geom ++ targets r.targets ++ bytesOf 4 r.f ++ bytesOf 4 r.e ++
        bytesOf 1 r.result.place)) ∧
    (∀ state lacking, (ReplyBody.array state lacking none).bytes = bytesOf 1 state.place) ∧
    (∀ state lacking d, (ReplyBody.array state lacking (some d)).bytes =
      bytesOf 1 state.place ++ (bytesOf 1 lacking ++ geometry d.geom ++ d.positions.flatMap fun p =>
        bytesOf 1 p.state.place ++ number 1 (p.channel.map fun c => c.val) ++ number 1 (p.spare.map fun c => c.val) ++
          number 1 (p.cause.map FailCause.place))) ∧
    (∀ r, (ReplyBody.pass r).bytes =
      bytesOf 1 r.state.place ++ number 1 (r.stopCause.map PassResult.stopPlace) ++ bytesOf 4 r.number ++
        targets r.targets ++ bytesOf 4 r.f ++ bytesOf 4 r.n ++ bytesOf 4 r.e ++ bytesOf 1 r.lastResult.place ++
        bytesOf 4 r.rowsReconstructed ++ bytesOf 4 r.rowsUnrecoverable ++ bytesOf 4 r.repairs ++
        (bytesOf 1 r.jobs.length ++ r.jobs.flatMap fun j => bytesOf 4 j.1 ++ bytesOf 1 j.2.place)) ∧
    (∀ r, (ReplyBody.channel r).bytes =
      bytesOf 1 r.state.place ++ flag r.presence ++ bytesOf 1 r.use.place ++ number 1 r.position ++ number 6 r.capacity ++
        bytesOf 1 r.foregroundSlots ++ bytesOf 1 r.rebuildSlots ++ flag r.probe ++ bytesOf 2 r.foregroundQueue ++
        bytesOf 2 r.rebuildQueue ++ bytesOf 2 r.timeout ++ flag r.autoFail ++ bytesOf 1 r.share) ∧
    (∀ r, (ReplyBody.store r).bytes =
      bytesOf 1 r.state.place ++ bytesOf 1 r.classification.place ++ flag r.wornFlag ++ bytesOf 2 r.eraseCount ++
        bytesOf 1 r.status.place ++ bytesOf 1 r.blank ++ bytesOf 1 r.written ++ bytesOf 1 r.torn ++
        number 1 (r.latest.map fun e => e.1) ++ number 4 (r.latest.map fun e => e.2.1) ++
        number 1 (r.latest.map fun e => e.2.2.place) ++ number 1 r.nextFree ++ flag r.recordPending ++
        bytesOf 2 r.interval) ∧
    (∀ latched highest waiting, (ReplyBody.attention latched highest waiting).bytes =
      [latched] ++ number 1 highest ++ flag waiting) ∧
    ∀ (b : Bank) (isChannel : Bool) (owner : List Byte) (kind : List Byte) (e : ErrorFields),
      (e.kind = none → kind = [0x00, 0x00]) → (e.kind = some .capacity → kind = [0x01, 0x00]) →
      (e.kind = some .read → kind = [0x01, 0x01]) → (e.kind = some .write → kind = [0x01, 0x02]) →
      (e.kind = some .lookup → kind = [0x01, 0x03]) → (e.kind = some .slotProgram → kind = [0x01, 0x04]) →
      (e.kind = some .eraseCycle → kind = [0x01, 0x05]) → (∀ k, e.kind = some (.frame k) → kind = [0x02, k]) →
      (∀ code, e.kind = some (.request code) → kind = [0x03] ++ bytesOf 1 code) →
      (e.owner = none → owner = [0x00] ++ bytesOf 4 0) →
      (∀ tag, e.owner = some (.request tag) → owner = [0x01] ++ bytesOf 4 tag) →
      (∀ k, e.owner = some (.passPosition k) → owner = [0x02] ++ bytesOf 4 k) →
      (∀ n, e.owner = some (.passNumber n) → owner = [0x03] ++ bytesOf 4 n) →
      ∃ fields : List Byte, (ReplyBody.bank b isChannel).bytes =
          flag b.record.isSome ++ flag b.overflow ++ fields ++ bytesOf 2 b.counter ++ flag b.reached ++ flag b.report ++
            (if isChannel = true then flag b.autoFail else []) ∧
        (b.record = none → fields = List.replicate 12 0) ∧
        (b.record = some e → fields = flag e.uncorrected ++ flag e.block.isSome ++ bytesOf 1 e.code.place ++
          number 6 e.block ++ bytesOf 2 e.count ++ kind ++ owner)

/-- A frame that is discarded hands its error to bank 13 with the fields of Table 10-2, and one that arrives
while the ALI takes no frame is not logged (R187, R194). A request with tag 0, an unknown code or a wrong body length
is refused by the ALI, in that order, and changes nothing else (R188). -/
def Obligations.BadFramesAnswered : Prop :=
  (∀ s : State, s.ali.taking = true →
    exec (.frameDiscarded .frameCheck) s = .next (s.takeError 13
      { code := .frameCheck, uncorrected := true, block := none, count := 0, kind := none, owner := none }) ∧
    (∀ k, exec (.frameDiscarded (.length k)) s = .next (s.takeError 13
      { code := .frameLength, uncorrected := true, block := none, count := 0, kind := some (.frame k),
        owner := none })) ∧
    (∀ tag, exec (.frameDiscarded (.unknownKind tag)) s = .next (s.takeError 13
      { code := .unknownKind, uncorrected := true, block := none, count := 0, kind := none,
        owner := some (.request tag) })) ∧
    exec (.frameDiscarded .dataBody) s = .next (s.takeError 13
      { code := .frameLength, uncorrected := true, block := none, count := 0, kind := some (.frame 0x03),
        owner := none })) ∧
  (∀ s : State, exec .receivedFrameNotTaken s = .next s ∧
    (s.ali.taking = false → ∀ r, exec (.frameDiscarded r) s = .next s)) ∧
  ∀ (s : State) (tag code : Nat), s.ali.taking = true →
    exec (.unknownRequest tag code) s = .next (s.reply tag
      (if tag = 0 then .badValue else if code ∈ requestCodes then .badLength else .unknownRequest) .empty)

/-- A GUARD is accepted for the seven guarded requests, with a position up to 10 where one is named, and then
replaces the guard held; else it is refused and leaves the record as it was (R190).
Each guarded request that the guard record does not name is refused UNGUARDED, logged with its code and
tag, and empties the record; DEFINE-ARRAY is guarded while an array is defined (R190, R191). That its reply is handed
before its error reaches bank 13, and so leaves first on idle lanes, is the model's order (log 4, log 15). A request
that is neither guarded nor a QUERY empties the guard record; a guard that was held is logged as GUARD-BROKEN with the
breaking request's code and tag before its owner takes it, and the request then acts as if no guard had been held. A
DEFINE-ARRAY that needs no guard, and that the guard held does not name, breaks it too. -/
def Obligations.GuardsRecordedAndEnforced : Prop :=
  (∀ (s : State) (tag code x : Nat), s.ali.taking = true → tag ≠ 0 →
    (code ∈ [0x10, 0x24, 0x59] →
      exec (.guard tag code x) s = .next (State.reply tag .ok .empty
        { s with ali := { s.ali with guard := some { code := code, position := none } } })) ∧
    (code ∈ [0x11, 0x12, 0x13, 0x52] → x ≤ 10 →
      exec (.guard tag code x) s = .next (State.reply tag .ok .empty
        { s with ali := { s.ali with guard := some { code := code, position := some x } } })) ∧
    (code ∈ [0x11, 0x12, 0x13, 0x52] → 10 < x → exec (.guard tag code x) s = .next (s.reply tag .badValue .empty)) ∧
    (code ∉ [0x10, 0x24, 0x59, 0x11, 0x12, 0x13, 0x52] →
      exec (.guard tag code x) s = .next (s.reply tag .badValue .empty))) ∧
  (∀ (s t : State) (tag code : Nat) (x : Option Nat), s.ali.taking = true → tag ≠ 0 →
    s.ali.guard ≠ some { code := code, position := x } → s.agenda = [] →
    t = State.takeError 13
      { code := .unguarded, uncorrected := false, block := none, count := 0, kind := some (.request code),
        owner := some (.request tag) }
      (State.reply tag .unguarded .empty { s with ali := { s.ali with guard := none } }) →
    (∀ p, code = 0x11 → x = some p → exec (.failMember tag p) s = .next t) ∧
    (∀ p c, code = 0x12 → x = some p → exec (.assignSpare tag p c) s = .next t) ∧
    (∀ p c, code = 0x13 → x = some p → exec (.returnMember tag p c) s = .next t) ∧
    (code = 0x24 → x = none → exec (.abortRebuild tag) s = .next t) ∧
    (code = 0x59 → x = none → exec (.eraseCheckpoints tag) s = .next t) ∧
    (∀ p m n, code = 0x52 → x = some p → exec (.dropLost tag p m n) s = .next t) ∧
    (∀ w k b0 st es, code = 0x10 → x = none → s.table.definition.isSome = true →
      exec (.defineArray tag w k b0 st es) s = .next t)) ∧
  ∀ (s u : State) (g : Guard) (tag : Nat), s.ali.taking = true → tag ≠ 0 → s.ali.guard = some g →
    guardableCodes.contains g.code = true →
    (∀ code, u = State.takeError 13
      { code := .guardBroken, uncorrected := false, block := none, count := 0, kind := some (.request code),
        owner := some (.request tag) } { s with ali := { s.ali with guard := none } } →
      (code = 0x01 → exec (.identify tag) s = exec (.identify tag) u) ∧
      (code = 0x10 → s.table.definition = none → g ≠ { code := 0x10, position := none } → ∀ w k b0 st es,
        exec (.defineArray tag w k b0 st es) s = exec (.defineArray tag w k b0 st es) u) ∧
      (code = 0x20 → ∀ xs, exec (.startRebuild tag xs) s = exec (.startRebuild tag xs) u) ∧
      (code = 0x21 → ∀ x, exec (.addTarget tag x) s = exec (.addTarget tag x) u) ∧
      (code = 0x22 → exec (.pauseRebuild tag) s = exec (.pauseRebuild tag) u) ∧
      (code = 0x23 → exec (.continueRebuild tag) s = exec (.continueRebuild tag) u) ∧
      (code = 0x25 → exec (.resumeRebuild tag) s = exec (.resumeRebuild tag) u) ∧
      (code = 0x30 → ∀ l n, exec (.readExtent tag l n) s = exec (.readExtent tag l n) u) ∧
      (code = 0x31 → ∀ l n, exec (.writeExtent tag l n) s = exec (.writeExtent tag l n) u) ∧
      (code = 0x32 → ∀ target, exec (.cancel tag target) s = exec (.cancel tag target) u) ∧
      (code = 0x40 → ∀ v, exec (.setShare tag v) s = exec (.setShare tag v) u) ∧
      (code = 0x41 → ∀ c ms auto, exec (.setChannel tag c ms auto) s = exec (.setChannel tag c ms auto) u) ∧
      (code = 0x42 → ∀ c, exec (.resetChannel tag c) s = exec (.resetChannel tag c) u) ∧
      (code = 0x43 → ∀ m0 m1 r0 r1 i0 i1,
        exec (.cacheMode tag m0 m1 r0 r1 i0 i1) s = exec (.cacheMode tag m0 m1 r0 r1 i0 i1) u) ∧
      (code = 0x50 → ∀ i, exec (.listLost tag i) s = exec (.listLost tag i) u) ∧
      (code = 0x51 → ∀ es, exec (.loadLost tag es) s = exec (.loadLost tag es) u) ∧
      (code = 0x53 → ∀ v, exec (.setLostLimit tag v) s = exec (.setLostLimit tag v) u) ∧
      (code = 0x58 → exec (.readCheckpoint tag) s = exec (.readCheckpoint tag) u) ∧
      (code = 0x5A → ∀ v, exec (.setInterval tag v) s = exec (.setInterval tag v) u) ∧
      (code = 0x70 → ∀ b o, exec (.clearBank tag b o) s = exec (.clearBank tag b o) u) ∧
      (code = 0x71 → ∀ b n e, exec (.setThreshold tag b n e) s = exec (.setThreshold tag b n e) u) ∧
      (code = 0x72 → ∀ seen, exec (.clearAttention tag seen) s = exec (.clearAttention tag seen) u) ∧
      (code = 0x7F → exec (.restart tag) s = exec (.restart tag) u))

/-- The QUERY requests hand one reply and change nothing else, a guard that is held included; IDENTIFY,
READ-CHECKPOINT and LIST-LOST with no guard held do so too (R39, R59, R136, R152, R168, R169, R179, R183, R191,
R193). QUERY-CHANNEL's reply tells the channel's record, its use and position by the Array Table (R23), and the commands in
its slots by their owners; QUERY-STORE's the store's registers, the slots by their status, and the latest record, the one
in the highest WRITTEN slot of a VALID store (R161). The array state and the lacking count follow from the number of
positions that are not IN-SERVICE (R22), and a channel is the member or the spare of a position whose record names it
(R23). -/
def Obligations.ReadingRequestsOnlyReply : Prop :=
  (∀ t : ArrayTable,
    (t.definition = none → t.state = .undefined ∧ t.lacking = 0) ∧
    (∀ (d : ArrayDef) (n : Nat), t.definition = some d →
      n = (d.positions.filter fun p => p.state != .inService).length →
      t.lacking = n ∧ (n = 0 → t.state = .normal) ∧ (n = 1 → t.state = .degraded1) ∧ (n = 2 → t.state = .degraded2) ∧
        (3 ≤ n → t.state = .failed)) ∧
    ∀ c, (∀ x, t.memberOf c = some x → ∃ p, t.position x = some p ∧ p.channel = some c) ∧
      (t.memberOf c = none ↔ ∀ x p, t.position x = some p → p.channel ≠ some c) ∧
      (∀ x, t.spareOf c = some x → ∃ p, t.position x = some p ∧ p.spare = some c) ∧
      (t.spareOf c = none ↔ ∀ x p, t.position x = some p → p.spare ≠ some c)) ∧
  (∀ (s : State) (tag : Nat), s.Asked tag →
    exec (.queryArray tag) s =
      .next (s.reply tag .ok (.array s.table.state s.table.lacking s.table.definition)) ∧
    exec (.queryPass tag) s = .next (s.reply tag .ok (.pass
      { state := s.rbc.state, stopCause := s.rbc.stopCause, number := s.rbc.number, targets := s.rbc.targets,
        f := s.rbc.f, n := s.rbc.n, e := s.rbc.e, lastResult := s.rbc.lastResult,
        rowsReconstructed := s.rbc.rowsReconstructed, rowsUnrecoverable := s.rbc.rowsUnrecoverable,
        repairs := s.rbc.repairs, jobs := s.rbc.window.map fun j => (j.k, j.state) })) ∧
    (∀ (c : Chan) (held : (SlotWork → Bool) → Nat),
      (∀ p, held p = ((List.finRange 4).filter fun i => ((s.channel c).slots.get i).any fun x => p x.work).length) →
      exec (.queryChannel tag c.val) s = .next (s.reply tag .ok (.channel
        { state := (s.channel c).state, presence := (s.channel c).presence
          use := if (s.table.memberOf c).isSome = true then .member
            else if (s.table.spareOf c).isSome = true then .assignedSpare else .unused
          position := (s.table.memberOf c).or (s.table.spareOf c)
          capacity := (s.channel c).capacity
          foregroundSlots := held fun
            | .owned (.segment _) .. => true
            | _ => false
          rebuildSlots := held fun
            | .owned (.job _) .. => true
            | _ => false
          probe := (List.finRange 4).any fun i => ((s.channel c).slots.get i).any fun x => x.work == .probe
          foregroundQueue := (s.channel c).foreground.length, rebuildQueue := (s.channel c).rebuild.length
          timeout := (s.channel c).timeout, autoFail := (s.eba.banks.get (channelBank c)).autoFail
          share := s.dc.share }))) ∧
    (∀ c, 11 < c → exec (.queryChannel tag c) s = .next (s.reply tag .badValue .empty)) ∧
    (∀ b : Fin 15, exec (.queryBank tag b.val) s =
      .next (s.reply tag .ok (.bank (s.eba.banks.get b) (decide (b.val < 12))))) ∧
    (∀ b, 14 < b → exec (.queryBank tag b) s = .next (s.reply tag .badValue .empty)) ∧
    (∀ count : SlotStatus → Nat,
      (∀ x, count x = ((List.finRange 64).filter fun i => s.cps.slotMap.get i == x).length) →
      exec (.queryStore tag) s = .next (s.reply tag .ok (.store
        { state := s.cps.state, classification := s.cps.classification, wornFlag := s.cps.wornFlag
          eraseCount := s.cps.nv.eraseCount, status := s.cps.status
          blank := count .blank, written := count .written, torn := count .torn
          latest := s.cps.latest.map fun e => (e.1.val, e.2.number, e.2.result)
          nextFree := s.cps.nextFree.map fun i => i.val
          recordPending := s.cps.pendingRecord.isSome, interval := s.cps.interval }))) ∧
    (∀ i r, s.cps.latest = some (i, r) ↔ s.cps.classification = .valid ∧ s.cps.slotMap.get i = .written ∧
      (∀ j, i < j → s.cps.slotMap.get j ≠ .written) ∧ (s.cps.nv.slots.get i).body = .record r) ∧
    exec (.queryAttention tag) s = .next (s.reply tag .ok
      (.attention s.eba.attention (highestClass s.eba.attention) s.eba.noticeWaiting))) ∧
  ∀ (s : State) (tag : Nat), s.Open tag →
    exec (.identify tag) s = .next (s.reply tag .ok .identity) ∧
    exec (.readCheckpoint tag) s = .next (s.reply tag .ok
      (.checkpoint (s.cps.latest.map fun e => (e.1.val, e.2)))) ∧
    (∀ i, i ≤ 255 → exec (.listLost tag i) s = .next (s.reply tag .ok
      (.lostEntries s.lel.entries.length s.lel.limit ((s.lel.entries.drop i).take 64)))) ∧
    (∀ i, 255 < i → exec (.listLost tag i) s = .next (s.reply tag .badValue .empty))

/-- When a transmission ends, a waiting NOTICE is sent next with the set as it stands, or withdrawn while the
set is empty; otherwise the frame queued longest (R181, R192). RESTART stops the taking of frames, and its OK reply
goes ahead of every frame: at once if the lanes are idle, else when the frame being sent ends, whatever NOTICE waits
(R192, R194). A frame that a block hands joins the tail of the queue, and on idle lanes the choice follows at once
(R192; that it does so at that moment is the model's reading, log 15); a reply is such a frame (R189). -/
def Obligations.FramesSentInOrder : Prop :=
  (∀ (s : State) (f : Frame),
    (∀ tag status body, f = .reply tag status body → s.reply tag status body = s.handFrame f) ∧
    (∀ g, s.ali.sending = some g →
      s.handFrame f = { s with ali := { s.ali with queue := s.ali.queue ++ [f] } }) ∧
    (s.ali.sending = none →
      (∀ tag, s.ali.restart = .queued tag → s.handFrame f = { s with ali := { s.ali with
        queue := s.ali.queue ++ [f], sending := some (.reply tag .ok .empty), restart := .sending } }) ∧
      ((∀ tag, s.ali.restart ≠ .queued tag) →
        (∀ h, s.eba.noticeWaiting = true → highestClass s.eba.attention = some h →
          s.handFrame f = { s with
            ali := { s.ali with queue := s.ali.queue ++ [f], sending := some (.notice s.eba.attention h) }
            eba := { s.eba with noticeWaiting := false } }) ∧
        ∀ g rest, s.eba.noticeWaiting = false ∨ s.eba.attention = 0 → s.ali.queue ++ [f] = g :: rest →
          s.handFrame f = { s with
            ali := { s.ali with queue := rest, sending := some g }
            eba := { s.eba with noticeWaiting := false } }))) ∧
  (∀ (s : State) (f : Frame), s.ali.sending = some f → s.ali.restart = .none →
    (∀ h, s.eba.noticeWaiting = true → highestClass s.eba.attention = some h →
      exec .frameTransmitted s = .next { s with
        ali := { s.ali with sending := some (.notice s.eba.attention h) }
        eba := { s.eba with noticeWaiting := false } }) ∧
    (∀ g rest, s.eba.noticeWaiting = false ∨ s.eba.attention = 0 → s.ali.queue = g :: rest →
      exec .frameTransmitted s = .next { s with
        ali := { s.ali with queue := rest, sending := some g }
        eba := { s.eba with noticeWaiting := false } }) ∧
    (s.eba.noticeWaiting = false ∨ s.eba.attention = 0 → s.ali.queue = [] →
      exec .frameTransmitted s = .next { s with
        ali := { s.ali with sending := none }
        eba := { s.eba with noticeWaiting := false } })) ∧
  ∀ (s : State) (tag : Nat), s.Open tag →
    (∀ f, s.ali.sending = some f →
      exec (.restart tag) s = .next { s with ali := { s.ali with taking := false, restart := .queued tag } } ∧
      exec .frameTransmitted { s with ali := { s.ali with taking := false, restart := .queued tag } } =
        .next { s with ali := { s.ali with
          taking := false, restart := .sending, sending := some (.reply tag .ok .empty) } }) ∧
    (s.ali.sending = none →
      exec (.restart tag) s = .next { s with ali := { s.ali with
        taking := false, restart := .sending, sending := some (.reply tag .ok .empty) } })

/-- The contents after a restart: what is emptied, and what the Array Table, the pass record, the channels, the
banks and the Checkpoint Store keep (R41, R61, R77, R92, R145, R157, R172, R185, R194, R195). A channel keeps its state,
presence, capacity, timeout and tag counter; a command in a slot keeps slot, tag and allowance: an owned WRITE, and what
remains of an owned READ, become orphans. The store keeps all it holds; with no operation under way it scans, and one
that is under way goes on, its reply is not sent, and the scan follows it. -/
def Obligations.RestartContents : Prop :=
  ∀ (s : State) (f : Frame), s.ali.sending = some f → s.ali.restart = .sending →
    ∃ t, exec .frameTransmitted s = .next t ∧ t.ali = LinkState.cold ∧ t.geom = s.geom ∧
      (∀ x p, s.table.position x = some p → t.table.position x = some
        (if p.state = .rebuilding then { p with state := .failed, channel := none, spare := p.channel } else p)) ∧
      t.slt.entries = [] ∧ t.slt.fullQueue = [] ∧ t.esu.requests = [] ∧
      t.rbc = { s.rbc with state := .idle, targets := [], doneTargets := [], window := [], stopCause := none } ∧
      t.cbs = BufferStore.cold ∧ t.lel.entries = [] ∧ t.lel.limit = 256 ∧ t.dc.share = s.dc.share ∧
      (∀ c : Chan,
        t.channel c = { s.channel c with slots := (t.channel c).slots, foreground := [], rebuild := [] } ∧
        (t.channel c).tagsOut = (s.channel c).tagsOut ∧ (t.channel c).rebuildOut = 0 ∧
        (t.channel c).foregroundOut = 0 ∧
        ∀ i, ((s.channel c).slots.get i = none → (t.channel c).slots.get i = none) ∧
          ∀ tag ms work, (s.channel c).slots.get i = some { tag := tag, allowance := ms, work := work } →
            ∃ left, (t.channel c).slots.get i = some { tag := tag, allowance := ms, work := left } ∧
              (work = .probe → left = .probe) ∧ (∀ cmd, work = .orphan cmd → left = .orphan cmd) ∧
              ∀ o cmd next outs reissues sh, work = .owned o cmd next outs reissues sh →
                (∀ bs flags, cmd.op = .write bs flags → left = .orphan cmd) ∧
                ∀ notes, cmd.op = .read notes → left = .orphan
                  { position := cmd.position, first := next, count := cmd.first + cmd.count - next, op := cmd.op }) ∧
      (s.cps.op = .none → t.cps = { s.cps with state := .scanning, rescan := false }) ∧
      (∀ i r, s.cps.op = .program i r → t.cps = { s.cps with rescan := true }) ∧
      (∀ step answers, s.cps.op = .erase step answers →
        t.cps = { s.cps with op := .erase step none, rescan := true }) ∧
      t.agenda = [] ∧ t.pending = s.pending ∧ t.eba.banks = s.eba.banks ∧ t.eba.attention = 0 ∧ t.eba.noticeWaiting = false

/-! ## Error banks and attention (spec/10) -/

/-- An error is taken whole (R175, R176): the record takes the first error, a further one sets overflow, the
counter rises up to 4095, reaching it sets the flag, latches THRESHOLD and, on a channel bank with auto-fail enabled,
hands one demand, and the enable reports it by ERROR-LOGGED. The bank's two enables, every other bank, and all but what
the two latches do (R180, R181) stay as they are. That THRESHOLD is latched and the demand handed before ERROR-LOGGED is
latched is the order of the rules' words (log 4). -/
def Obligations.ErrorTakenWhole : Prop :=
  ∀ (s t : State) (i : Fin 15) (e : ErrorFields), t = s.takeError i e →
    ((s.eba.banks.get i).record = none →
      (t.eba.banks.get i).record = some e ∧ (t.eba.banks.get i).overflow = (s.eba.banks.get i).overflow) ∧
    (∀ first, (s.eba.banks.get i).record = some first →
      (t.eba.banks.get i).record = some first ∧ (t.eba.banks.get i).overflow = true) ∧
    ((s.eba.banks.get i).counter ≤ 4095 →
      (t.eba.banks.get i).counter = min ((s.eba.banks.get i).counter + 1) 4095) ∧
    ((s.eba.banks.get i).counter = 4094 →
      (t.eba.banks.get i).reached = true ∧ t.eba.attention.getLsbD 5 = true) ∧
    ((s.eba.banks.get i).counter ≠ 4094 → (t.eba.banks.get i).reached = (s.eba.banks.get i).reached) ∧
    (∀ c : Chan, i = channelBank c → (s.eba.banks.get i).counter = 4094 → (s.eba.banks.get i).autoFail = true →
      t.agenda = s.agenda ++ [.demand c]) ∧
    (12 ≤ i.val ∨ (s.eba.banks.get i).counter ≠ 4094 ∨ (s.eba.banks.get i).autoFail = false →
      t.agenda = s.agenda) ∧
    ((s.eba.banks.get i).report = true → t.eba.attention.getLsbD 7 = true) ∧
    ((s.eba.banks.get i).report = false → (s.eba.banks.get i).counter ≠ 4094 →
      t = { s with eba := { s.eba with banks := t.eba.banks } }) ∧
    t = { s with ali := t.ali, eba := t.eba, agenda := t.agenda } ∧
    (∀ j, j ≠ i → t.eba.banks.get j = s.eba.banks.get j) ∧
    ∀ (b : Bank) (u v : State), b = s.eba.banks.get i →
      u = { s with eba := { s.eba with banks := s.eba.banks.set i { b with
        record := some (b.record.getD e), overflow := b.overflow || b.record.isSome
        counter := if b.counter < 4095 then b.counter + 1 else b.counter
        reached := b.reached || decide (b.counter = 4094) } } } →
      (b.counter ≠ 4094 → v = u) →
      (b.counter = 4094 → 12 ≤ i.val ∨ b.autoFail = false → v = u.latch .threshold) →
      (∀ c : Chan, b.counter = 4094 → i = channelBank c → b.autoFail = true →
        v = State.later (.demand c) (u.latch .threshold)) →
      t = if b.report = true then v.latch .errorLogged else v

/-- SET-THRESHOLD loads 4095 − n, clears the flag and sets the reporting enable; CLEAR-BANK removes the record
and clears overflow where it was seen; both refuse a bank above 14 and values out of their range (R177,
R178). -/
def Obligations.BankRequests : Prop :=
  ∀ (s : State) (tag : Nat), s.Open tag →
    (∀ (b : Fin 15) (n e : Nat), 1 ≤ n → e ≤ 1 →
      exec (.setThreshold tag b.val n e) s = .next (State.reply tag .ok (.counter (4095 - min n 4095))
        { s with eba := { s.eba with banks := s.eba.banks.set b { s.eba.banks.get b with
          counter := 4095 - min n 4095, reached := false, report := decide (e = 1) } } })) ∧
    (∀ b n e, 14 < b ∨ n = 0 ∨ 1 < e →
      exec (.setThreshold tag b n e) s = .next (s.reply tag .badValue .empty)) ∧
    (∀ (b : Fin 15), exec (.clearBank tag b.val 1) s = .next (State.reply tag .ok (.overflow false)
        { s with eba := { s.eba with banks := s.eba.banks.set b { s.eba.banks.get b with
          record := none, overflow := false } } })) ∧
    (∀ (b : Fin 15), exec (.clearBank tag b.val 0) s =
      .next (State.reply tag .ok (.overflow (s.eba.banks.get b).overflow)
        { s with eba := { s.eba with banks := s.eba.banks.set b { s.eba.banks.get b with record := none } } })) ∧
    ∀ b o, 14 < b ∨ 1 < o → exec (.clearBank tag b o) s = .next (s.reply tag .badValue .empty)

/-- A class that is clear becomes latched and a NOTICE waits for it; a latched class is latched again without
effect (R180, R181). On idle lanes the NOTICE is sent at once with the set as it stands. The highest latched class is
the latched class of the lowest number (R180). CLEAR-ATTENTION clears the classes named and no other, and its reply carries the set after
the clear (R182). -/
def Obligations.AttentionLatchedAndCleared : Prop :=
  (∀ (s : State) (c : Attention),
    (s.eba.attention.getLsbD c.number = true → s.latch c = s) ∧
    (∀ f, s.eba.attention.getLsbD c.number = false → s.ali.sending = some f →
      s.latch c = { s with eba := { s.eba with
        attention := s.eba.attention ||| (1 : Byte) <<< c.number, noticeWaiting := true } }) ∧
    (s.eba.attention.getLsbD c.number = false → s.ali.sending = none →
      ∀ set, set = s.eba.attention ||| (1 : Byte) <<< c.number →
      (s.eba.noticeWaiting = true → s.latch c = { s with eba := { s.eba with attention := set } }) ∧
      (s.eba.noticeWaiting = false → (∀ tag, s.ali.restart ≠ .queued tag) → ∃ h, highestClass set = some h ∧
        s.latch c = { s with
          ali := { s.ali with sending := some (.notice set h) }, eba := { s.eba with attention := set } }) ∧
      ∀ tag, s.eba.noticeWaiting = false → s.ali.restart = .queued tag → s.latch c = { s with
        ali := { s.ali with sending := some (.reply tag .ok .empty), restart := .sending }
        eba := { s.eba with attention := set, noticeWaiting := true } })) ∧
  (∀ set : Byte, (highestClass set = none ↔ set = 0) ∧
    ∀ h, highestClass set = some h ↔ h < 8 ∧ set.getLsbD h = true ∧ ∀ n < h, set.getLsbD n = false) ∧
  [.arrayLost, .memberFailed, .passEnded, .listNearFull, .storeFault, .threshold, .channelChange, .errorLogged].map
    Attention.number = List.range 8 ∧
  ∀ (s : State) (tag : Nat) (seen : Byte), s.Open tag →
    ∃ left : Byte, (∀ n < 8, left.getLsbD n = (s.eba.attention.getLsbD n && !seen.getLsbD n)) ∧
      exec (.clearAttention tag seen) s =
        .next (State.reply tag .ok (.attentionSet left) { s with eba := { s.eba with attention := left } })

/-! ## Positions (spec/02) -/

/-- An accepted DEFINE-ARRAY takes the geometry and the positions as named, empties the buffer store and the
Lost Extent List with its limit kept, and uses a guard that names it; with W = 0 it removes the definition, and
changes nothing where there is none (R25 to R27, R191). The refusals of DEFINE-ARRAY, in the order of R25's checks;
each leaves all but the guard as it was. -/
def Obligations.ArrayDefined : Prop :=
  (∀ (s : State) (tag : Nat) (g : Geometry) (es : List PositionEntry),
    (s.Open tag ∧ s.table.definition = none) ∨ s.GuardedBy tag 0x10 none →
    s.rbc.state = .idle → s.esu.requests = [] → 4 ≤ g.w → g.w ≤ 11 → g.k ∈ [8, 16, 32, 64] → g.b0 ≤ 1048575 →
    1 ≤ g.s → g.s ≤ 2147483648 → (∀ e ∈ es, e.state = 0 ∨ e.state = 1) →
    ((es.filter fun e => e.state == 0).map fun e => e.channel).Nodup →
    (∀ e ∈ es, e.state = 0 → ∃ (c : Chan) (n : Nat), e.channel = c.val ∧ (s.channel c).state = .ready ∧
      (s.channel c).capacity = some n ∧ g.b0 + g.s * g.k ≤ n) →
    exec (.defineArray tag g.w g.k g.b0 g.s es) s = .next (State.reply tag .ok .empty
      { s with
        ali := { s.ali with guard := none }
        table := { definition := some { geom := g, positions := es.map fun e =>
          if e.state = 0 then { state := .inService, channel := channelOf e.channel, spare := none, cause := none }
          else { state := .failed, channel := none, spare := none, cause := none } } }
        cbs := { s.cbs with sets := s.cbs.sets.map fun b => { b with line0 := none, line1 := none } }
        lel := { s.lel with entries := [] } })) ∧
  (∀ (s : State) (tag k b0 stripes : Nat) (es : List PositionEntry), s.rbc.state = .idle → s.esu.requests = [] →
    (s.GuardedBy tag 0x10 none → s.table.definition.isSome = true →
      exec (.defineArray tag 0 k b0 stripes es) s = .next (State.reply tag .ok .empty
        { s with
          ali := { s.ali with guard := none }
          table := { definition := none }
          cbs := { s.cbs with sets := s.cbs.sets.map fun b => { b with line0 := none, line1 := none } }
          lel := { s.lel with entries := [] } })) ∧
    (s.Open tag → s.table.definition = none →
      exec (.defineArray tag 0 k b0 stripes es) s = .next (s.reply tag .ok .empty))) ∧
  ∀ (s : State) (tag w k b0 stripes : Nat) (es : List PositionEntry) (status : Status) (valid good : Prop),
    (s.Open tag ∧ s.table.definition = none) ∨ s.GuardedBy tag 0x10 none →
    (valid ↔ 4 ≤ w ∧ w ≤ 11 ∧ k ∈ [8, 16, 32, 64] ∧ b0 ≤ 1048575 ∧ 1 ≤ stripes ∧ stripes ≤ 2147483648) →
    (good ↔ ∀ e ∈ es, e.state ≤ 1 ∧ (e.state = 0 → e.channel ≤ 11)) →
    (s.rbc.state ≠ .idle ∧ status = .wrongState) ∨
    (s.rbc.state = .idle ∧
      ((s.esu.requests ≠ [] ∧ status = .busy) ∨
      (s.esu.requests = [] ∧ w ≠ 0 ∧
        ((¬(valid ∧ good) ∧ status = .badValue) ∨
        (valid ∧ good ∧
          ((¬((es.filter fun e => e.state == 0).map fun e => e.channel).Nodup ∧ status = .channelInUse) ∨
          (((es.filter fun e => e.state == 0).map fun e => e.channel).Nodup ∧
            (((∃ e ∈ es, ∃ c : Chan, e.state = 0 ∧ e.channel = c.val ∧ (s.channel c).state ≠ .ready) ∧
              status = .channelNotReady) ∨
            ((∀ e ∈ es, ∀ c : Chan, e.state = 0 → e.channel = c.val → (s.channel c).state = .ready) ∧
              (∃ e ∈ es, ∃ (c : Chan) (n : Nat), e.state = 0 ∧ e.channel = c.val ∧
                (s.channel c).capacity = some n ∧ n < b0 + stripes * k) ∧ status = .tooSmall))))))))) →
    exec (.defineArray tag w k b0 stripes es) s =
      .next (State.reply tag status .empty { s with ali := { s.ali with guard := none } })

/-- The guarded requests on a position. FAIL-MEMBER on a position that is not FAILED fails it with cause HOST, and
the OK reply is handed behind every effect of the failure (R24, R28). ASSIGN-SPARE and RETURN-MEMBER, accepted: the
spare or the channel is set in the record of the FAILED position named and nowhere else (R29, R30). Their refusals,
in the order of R24's checks and then of their own; each uses the guard and changes nothing else. -/
def Obligations.MembersChangedByRequest : Prop :=
  (∀ (s u : State) (tag x : Nat), u = { s with ali := { s.ali with guard := none } } → s.agenda = [] →
    s.table.definition = none ∨ (∃ d, s.table.definition = some d ∧ d.geom.w ≤ x) →
    ∀ status, status = (if s.table.definition = none then .notDefined else .badValue) →
      (s.GuardedBy tag 0x11 (some x) → exec (.failMember tag x) s = .next (u.reply tag status .empty)) ∧
      ∀ c, (s.GuardedBy tag 0x12 (some x) → exec (.assignSpare tag x c) s = .next (u.reply tag status .empty)) ∧
        (s.GuardedBy tag 0x13 (some x) → exec (.returnMember tag x c) s = .next (u.reply tag status .empty))) ∧
  ∀ (s u : State) (tag x : Nat) (d : ArrayDef) (p : PosRec), u = { s with ali := { s.ali with guard := none } } →
    s.table.definition = some d → x < d.geom.w → d.positions[x]? = some p →
    (s.GuardedBy tag 0x11 (some x) → s.agenda = [] →
      (p.state ≠ .failed → exec (.failMember tag x) s = .next (State.settle (State.later
        (.frame (.reply tag .ok .empty)) (u.failPosition x p .host)))) ∧
      (p.state = .failed → exec (.failMember tag x) s = .next (u.reply tag .wrongState .empty))) ∧
    (∀ c, 11 < c →
      (s.GuardedBy tag 0x12 (some x) → exec (.assignSpare tag x c) s = .next (u.reply tag .badValue .empty)) ∧
      (s.GuardedBy tag 0x13 (some x) → exec (.returnMember tag x c) s = .next (u.reply tag .badValue .empty))) ∧
    ∀ (c : Chan) (large : Prop),
      (large ↔ d.geom.b0 + d.geom.s * d.geom.k ≤ (s.channel c).capacity.getD 0) →
      (s.GuardedBy tag 0x12 (some x) → ∀ free : Prop,
        (free ↔ s.table.memberOf c = none ∧ (s.table.spareOf c = none ∨ s.table.spareOf c = some x)) →
        (p.state ≠ .failed → exec (.assignSpare tag x c.val) s = .next (u.reply tag .wrongState .empty)) ∧
        (p.state = .failed → ¬free →
          exec (.assignSpare tag x c.val) s = .next (u.reply tag .channelInUse .empty)) ∧
        (p.state = .failed → free → (s.channel c).state ≠ .ready →
          exec (.assignSpare tag x c.val) s = .next (u.reply tag .channelNotReady .empty)) ∧
        (p.state = .failed → free → (s.channel c).state = .ready → ¬large →
          exec (.assignSpare tag x c.val) s = .next (u.reply tag .tooSmall .empty)) ∧
        (p.state = .failed → free → (s.channel c).state = .ready → large →
          exec (.assignSpare tag x c.val) s = .next (State.reply tag .ok .empty { u with
            table := { definition := some { d with
              positions := d.positions.set x { p with spare := some c } } } }))) ∧
      (s.GuardedBy tag 0x13 (some x) → ∀ free : Prop,
        (free ↔ s.table.memberOf c = none ∧ s.table.spareOf c = none) →
        (p.state ≠ .failed ∨ p.spare ≠ none →
          exec (.returnMember tag x c.val) s = .next (u.reply tag .wrongState .empty)) ∧
        (p.state = .failed → p.spare = none → ¬free →
          exec (.returnMember tag x c.val) s = .next (u.reply tag .channelInUse .empty)) ∧
        (p.state = .failed → p.spare = none → free → (s.channel c).state ≠ .ready →
          exec (.returnMember tag x c.val) s = .next (u.reply tag .channelNotReady .empty)) ∧
        (p.state = .failed → p.spare = none → free → (s.channel c).state = .ready → ¬large →
          exec (.returnMember tag x c.val) s = .next (u.reply tag .tooSmall .empty)) ∧
        (p.state = .failed → p.spare = none → free → (s.channel c).state = .ready → large →
          exec (.returnMember tag x c.val) s = .next (State.reply tag .ok .empty { u with
            table := { definition := some { d with
              positions := d.positions.set x
                { state := .inService, channel := some c, spare := none, cause := none } } } })))

/-- What a failure does (R34 to R36): the position's record, its former channel, its buffer lines, MEMBER-FAILED, the
loss of its target where it was REBUILDING, and the ends of the channel's commands, which are failed for their owners
(R35): slots first, then the foreground and the rebuild queue (the order is the model's, log 4). Every other position,
channel and line keeps its record. A failure that makes the array FAILED latches ARRAY-LOST, and acts on the pass and on
each extent request (R36): a pass in progress becomes STOPPING with ABORTED-ARRAY-FAILED, a STOPPING one keeps its cause,
and its jobs are cut short (R140); a request in LOCK-WAIT or DATA-WAIT ends ARRAY-FAILED at once, and another waits to end
so once nothing of it is outstanding (R115). That the waiters are withdrawn together, so that none is granted on the way,
is the model's choice (log 20). -/
def Obligations.PositionFailureEffects : Prop :=
  (∀ (s t : State) (x : Nat) (p : PosRec) (cause : FailCause) (g : Geometry), s.table.position x = some p →
    s.geom = some g → t = s.failPosition x p cause →
    t.geom = some g ∧
    t.table.position x = some { state := .failed, channel := none, spare := none, cause := some cause } ∧
    (∀ y, y ≠ x → t.table.position y = s.table.position y) ∧
    (∀ c, p.channel = some c → t.channel c =
      if cause = .removed then (s.channel c).Emptied else (s.channel c).Offline) ∧
    (∀ c, p.channel ≠ some c → t.channel c = s.channel c) ∧ t.dc.share = s.dc.share ∧
    (∀ i w l, (t.cbs.sets.get i).line w = some l ↔ (s.cbs.sets.get i).line w = some l ∧ l.position ≠ x) ∧
    (∀ i w, (t.cbs.sets.get i).replace = (s.cbs.sets.get i).replace ∧ t.cbs.mode w = s.cbs.mode w) ∧
    ∀ (u v : State) (endings : List Task) (ended : Owner → DriveCmd → List BlockOutcome → List (Nat × Nat) → Task),
      u = State.latch .memberFailed { s with table := t.table, dc := t.dc, cbs := t.cbs } →
      (p.state = .rebuilding → v = u.targetLost x g) → (p.state ≠ .rebuilding → v = u) →
      (∀ o cmd outs sh, (∀ notes, cmd.op = .read notes → ended o cmd outs sh = .readDone o cmd p.channel
          (outs ++ List.replicate (cmd.count - outs.length) (.erased .positionFailed)) sh) ∧
        ∀ bs flags, cmd.op = .write bs flags → ended o cmd outs sh = .writeDone o) →
      (p.channel = none → endings = []) →
      (∀ c, p.channel = some c → endings =
        ((List.finRange 4).flatMap fun i =>
          match (s.channel c).slots.get i with
          | some { work := .owned o cmd _ outs _ sh, .. } => [ended o cmd outs sh]
          | _ => []) ++
        ((s.channel c).foreground ++ (s.channel c).rebuild).map fun q => ended q.owner q.cmd [] []) →
      (s.table.state = .failed ∨ t.table.state ≠ .failed → t = State.laterAll (endings ++ [.drained]) v) ∧
      (s.table.state ≠ .failed → t.table.state = .failed → t = State.laterAll (endings ++ [.drained])
        (State.failRequests (State.passArrayFailed (State.latch .arrayLost v))))) ∧
  (∀ s : State,
    (s.rbc.state = .idle → s.passArrayFailed = s) ∧
    (s.rbc.state ∈ [.running, .pausing, .paused] → s.passArrayFailed = State.cutJobs
      { s with rbc := { s.rbc with state := .stopping, stopCause := some .abortedArrayFailed } }) ∧
    (s.rbc.state = .stopping → s.passArrayFailed = s.cutJobs)) ∧
  ∀ (s : State) (kept : Requester → Bool) (fails : State → ExtentReq → State),
    (∀ q, kept q = true ↔ ∀ tag r, q = .extent tag → s.request tag = some r → r.state ≠ .lockWait) →
    (∀ v r,
      (r.state = .lockWait → fails v r = State.later
        (.frame (.reply r.tag .arrayFailed (.extent r.blocksDone r.lostCount r.firstLost)))
        (State.dropRequest r.tag (v.giveUp (.extent r.tag)))) ∧
      (r.state = .dataWait → fails v r = State.later
        (.frame (.reply r.tag .arrayFailed (.extent r.blocksDone r.lostCount r.firstLost)))
        (State.dropRequest r.tag (v.unlock (.extent r.tag)))) ∧
      (r.state ∈ [.gather, .compute, .writeOut, .send] → fails v r = State.later (.segment r.tag)
        (v.putRequest { r with endPending := some .arrayFailed }))) →
    s.failRequests = s.esu.requests.foldl fails { s with slt := {
      entries := s.slt.entries.map fun e => { e with waiters := e.waiters.filter fun w => kept w.requester }
      fullQueue := s.slt.fullQueue.filter fun w => kept w.requester } }

/-- An auto-fail demand is dropped off a channel that is no member, taken where the lacking count it leaves is
at most 2, withheld where it is 3 or more, and on a REBUILDING position taken unless the array is FAILED
(R33). -/
def Obligations.DemandJudged : Prop :=
  ∀ (s : State) (c : Chan),
    (s.table.memberOf c = none → s.demand c = s) ∧
    ∀ x p, s.table.memberOf c = some x → s.table.position x = some p →
      (p.state = .inService → s.table.lacking ≤ 1 → s.demand c = s.failPosition x p .threshold) ∧
      (p.state = .inService → 2 ≤ s.table.lacking → s.demand c = s) ∧
      (p.state = .rebuilding → s.table.state ≠ .failed → s.demand c = s.failPosition x p .threshold) ∧
      (p.state = .rebuilding → s.table.state = .failed → s.demand c = s)

/-! ## The rebuild pass (spec/07) -/

/-- START-REBUILD, accepted for one position: the number after the latest record's, the target on its spare
with A = 0, F = N = 0, E = S, the counters at 0, the position REBUILDING, a record, the reply, and then the
jobs; for two positions, in either order, both become targets, in ascending position (R37, R118, R130, R143).
RESUME-REBUILD, accepted: the pass takes number, F and E of the latest record and N = F, and each target
recorded ACTIVE becomes REBUILDING again (R135). The refusals of both, in the order of their checks. -/
def Obligations.PassBegins : Prop :=
  (∀ (s : State) (tag x : Nat) (d : ArrayDef) (p : PosRec) (c : Chan) (fresh : List Target → PassRecord),
    s.Open tag → s.rbc.state = .idle → s.table.definition = some d → s.table.state ≠ .failed →
    x < d.geom.w → d.positions[x]? = some p → p.state = .failed → p.spare = some c →
    (∀ ts, fresh ts = { state := .running,
                        number := match s.cps.latest with
                          | some (_, r) => if r.number = 4294967295 then 1 else r.number + 1
                          | none => 1
                        targets := ts, doneTargets := [], f := 0, n := 0, e := d.geom.s, stopCause := none,
                        lastResult := .none, rowsReconstructed := 0, rowsUnrecoverable := 0, repairs := 0,
                        window := [] }) →
    exec (.startRebuild tag [x]) s = .next (State.settle (State.later .startJobs (State.reply tag .ok .empty
      (State.handProgress { s with
        table := { definition := some { d with
          positions := d.positions.set x { p with state := .rebuilding, channel := some c, spare := none } } }
        cbs := { s.cbs with sets := s.cbs.sets.map (BufferSet.drop fun _ l => l.position == x) }
        rbc := fresh [{ position := x, channel := c, start := 0, state := .active }] })))) ∧
    ∀ (y : Nat) (p' : PosRec) (c' : Chan) (xs : List Nat), x < y → y < d.geom.w → d.positions[y]? = some p' →
      p'.state = .failed → p'.spare = some c' → xs = [x, y] ∨ xs = [y, x] →
      exec (.startRebuild tag xs) s = .next (State.settle (State.later .startJobs (State.reply tag .ok .empty
        (State.handProgress (State.rebuildPosition y (State.rebuildPosition x { s with
          rbc := fresh [{ position := x, channel := c, start := 0, state := .active },
            { position := y, channel := c', start := 0, state := .active }] }))))))) ∧
  (∀ (s : State) (tag : Nat) (d : ArrayDef) (i : Fin 64) (r : CheckpointRecord), s.Open tag →
    s.rbc.state = .idle → s.table.definition = some d → s.table.state ≠ .failed →
    s.cps.latest = some (i, r) → r.result = .none → r.geom = d.geom →
    (∀ a ∈ r.targets, a.state = .active → ∃ p, s.table.position a.position = some p ∧ p.state = .failed ∧
      p.spare = some a.channel) →
    exec (.resumeRebuild tag) s = .next (State.settle (State.later .startJobs (State.reply tag .ok .empty
      (State.rebuildPositions ((r.targets.filter fun a => a.state == .active).map fun a => a.position) { s with
        rbc := { state := .running, number := r.number, targets := r.targets.filter fun a => a.state == .active,
                 doneTargets := [], f := r.f, n := r.f, e := r.e, stopCause := none, lastResult := .none,
                 rowsReconstructed := 0, rowsUnrecoverable := 0, repairs := 0, window := [] } }))))) ∧
  ∀ (s : State) (tag : Nat) (status : Status), s.Open tag → s.agenda = [] →
    (∀ (xs : List Nat) (bad : Prop),
      (bad ↔ (xs.length ≠ 1 ∧ xs.length ≠ 2) ∨ (∃ d, s.table.definition = some d ∧ ∃ x ∈ xs, d.geom.w ≤ x) ∨
        ¬xs.Nodup) →
      (bad ∧ status = .badValue) ∨
      (¬bad ∧
        ((s.rbc.state ≠ .idle ∧ status = .wrongState) ∨
        (s.rbc.state = .idle ∧ s.table.definition = none ∧ status = .notDefined) ∨
        (s.rbc.state = .idle ∧ s.table.definition ≠ none ∧ status = .wrongState ∧
          (s.table.state = .failed ∨
            ∃ x ∈ xs, ∀ p, s.table.position x = some p → p.state ≠ .failed ∨ p.spare = none)))) →
      exec (.startRebuild tag xs) s = .next (s.reply tag status .empty)) ∧
    ((s.rbc.state ≠ .idle ∧ status = .wrongState) ∨
      (s.rbc.state = .idle ∧
        ((s.table.definition = none ∧ status = .notDefined) ∨
        ∃ d, s.table.definition = some d ∧
          ((s.table.state = .failed ∧ status = .wrongState) ∨
          (s.table.state ≠ .failed ∧
            (((s.cps.latest = none ∨ ∃ i r, s.cps.latest = some (i, r) ∧ r.result ≠ .none) ∧ status = .noResume) ∨
            ∃ i r, s.cps.latest = some (i, r) ∧ r.result = .none ∧ status = .mismatch ∧
              (r.geom ≠ d.geom ∨ ∃ a ∈ r.targets, a.state = .active ∧
                ∀ p, s.table.position a.position = some p → p.state ≠ .failed ∨ p.spare ≠ some a.channel)))))) →
      exec (.resumeRebuild tag) s = .next (s.reply tag status .empty))

/-- ADD-TARGET, accepted: the second target's range begins at N, E is N + S, its position becomes REBUILDING
and a record is handed (R119, R131); its refusals, in the order of R131's checks. The loss of one of two targets,
whichever it is (R119, R138): it turns LOST, E becomes the larger of N and the other's end, and a record is handed. The
loss that leaves no target ACTIVE (R119, R139): E is N, the pass becomes STOPPING with ABORTED-TARGETS-LOST, or keeps the
cause with which it is STOPPING already, and each job that is not COMPLETE or FAILED is cut short: a LOCKING one is
withdrawn and becomes FAILED at once, another once nothing of it is outstanding. -/
def Obligations.TargetsAddedAndLost : Prop :=
  (∀ (s : State) (tag x : Nat) (d : ArrayDef) (p : PosRec) (c : Chan) (a : Target), s.Open tag →
    s.rbc.state ∈ [.running, .pausing, .paused] → s.rbc.targets = [a] → s.rbc.n < d.geom.s →
    s.table.definition = some d → x < d.geom.w → d.positions[x]? = some p →
    p.state = .failed → p.spare = some c →
    exec (.addTarget tag x) s = .next (State.reply tag .ok .empty (State.handProgress { s with
      table := { definition := some { d with
        positions := d.positions.set x { p with state := .rebuilding, channel := some c, spare := none } } }
      cbs := { s.cbs with sets := s.cbs.sets.map (BufferSet.drop fun _ l => l.position == x) }
      rbc := { s.rbc with
        targets := [a, { position := x, channel := c, start := s.rbc.n, state := .active }]
        e := s.rbc.n + d.geom.s } }))) ∧
  (∀ (s : State) (tag x : Nat) (status : Status), s.Open tag → s.agenda = [] →
    (s.table.definition = none ∧ status = .notDefined) ∨
    (∃ d, s.table.definition = some d ∧
      ((d.geom.w ≤ x ∧ status = .badValue) ∨
      (x < d.geom.w ∧ status = .wrongState ∧
        (s.rbc.state ∈ [.idle, .stopping] ∨ s.rbc.targets.length ≠ 1 ∨ d.geom.s ≤ s.rbc.n ∨
          ∀ p, s.table.position x = some p → p.state ≠ .failed ∨ p.spare = none)))) →
    exec (.addTarget tag x) s = .next (s.reply tag status .empty)) ∧
  (∀ (s : State) (g : Geometry) (a b : Target), s.rbc.targets = [a, b] → a.position ≠ b.position →
    (b.state = .active →
      s.targetLost a.position g = State.handProgress { s with rbc := { s.rbc with
        targets := [{ a with state := .lost }, b], e := max s.rbc.n (b.start + g.s) } }) ∧
    (a.state = .active →
      s.targetLost b.position g = State.handProgress { s with rbc := { s.rbc with
        targets := [a, { b with state := .lost }], e := max s.rbc.n (a.start + g.s) } })) ∧
  (∀ (s : State) (g : Geometry) (x : Nat), (∀ a ∈ s.rbc.targets, a.state = .active → a.position = x) →
    s.targetLost x g = State.cutJobs { s with rbc := { s.rbc with
      targets := s.rbc.targets.map fun a => if a.position = x then { a with state := .lost } else a
      e := s.rbc.n
      state := if s.rbc.state.working = true then .stopping else s.rbc.state
      stopCause := if s.rbc.state.working = true then some .abortedTargetsLost else s.rbc.stopCause } }) ∧
  ∀ (s : State) (cut : State → Job → State),
    (∀ v j,
      (j.state = .complete ∨ j.state = .failed → cut v j = v) ∧
      (j.state = .locking →
        cut v j = State.giveUp (.job j.k) (v.putJob { j with state := .failed, cutShort := true })) ∧
      (j.state ∈ [.reading, .computing, .writing] →
        cut v j = State.later (.job j.k) (v.putJob { j with cutShort := true }))) →
    s.cutJobs = s.rbc.window.foldl cut s

/-- PAUSE-REBUILD by state of the pass (R132), CONTINUE-REBUILD and a guarded ABORT-REBUILD (R133, R134), with their
refusals. -/
def Obligations.PassSteered : Prop :=
  ∀ (s : State) (tag : Nat),
    (s.Open tag →
      (s.rbc.state = .running → s.rbc.window ≠ [] → exec (.pauseRebuild tag) s =
        .next (State.reply tag .ok .empty { s with rbc := { s.rbc with state := .pausing } })) ∧
      (s.rbc.state = .running → s.rbc.window = [] → exec (.pauseRebuild tag) s =
        .next (State.reply tag .ok .empty
          (State.handProgress { s with rbc := { s.rbc with state := .paused } }))) ∧
      (s.rbc.state = .pausing ∨ s.rbc.state = .paused →
        exec (.pauseRebuild tag) s = .next (s.reply tag .ok .empty) ∧
        exec (.continueRebuild tag) s = .next (State.settle (State.later .startJobs (State.reply tag .ok .empty
          { s with rbc := { s.rbc with state := .running } })))) ∧
      (s.rbc.state = .idle ∨ s.rbc.state = .stopping →
        exec (.pauseRebuild tag) s = .next (s.reply tag .wrongState .empty)) ∧
      (s.rbc.state = .idle ∨ s.rbc.state = .running ∨ s.rbc.state = .stopping → s.agenda = [] →
        exec (.continueRebuild tag) s = .next (s.reply tag .wrongState .empty))) ∧
    (s.GuardedBy tag 0x24 none →
      (s.rbc.state ∈ [.running, .pausing, .paused] →
        exec (.abortRebuild tag) s = .next (State.settle (State.later .drained (State.reply tag .ok .empty
          { s with
            ali := { s.ali with guard := none }
            rbc := { s.rbc with state := .stopping, stopCause := some .abortedByRequest } })))) ∧
      (s.rbc.state = .idle ∨ s.rbc.state = .stopping → s.agenda = [] →
        exec (.abortRebuild tag) s =
          .next (State.reply tag .wrongState .empty { s with ali := { s.ali with guard := none } })))

/-- Jobs start in ascending pass position while the pass is RUNNING, until N reaches E or stands eight above F
(R121, R122). Each has the target set of its pass position, the ACTIVE targets whose range includes it (R119), which the
model lists by ascending position (log 11); it raises N, joins the window, and asks for the lock of its stripe SHARED at
once. In any other state no job starts. -/
def Obligations.JobsStartToTheWindow : Prop :=
  (∀ s : State, s.rbc.state ≠ .running → s.startJobs = s) ∧
  ∀ (s t : State) (g : Geometry), s.geom = some g → s.rbc.state = .running → s.rbc.f ≤ s.rbc.n →
    s.rbc.n ≤ s.rbc.e → s.rbc.n ≤ s.rbc.f + 8 → t = s.startJobs →
    t.rbc.n = min (s.rbc.f + 8) s.rbc.e ∧ t.rbc.f = s.rbc.f ∧ t.rbc.e = s.rbc.e ∧
    ∃ js, t.rbc.window = s.rbc.window ++ js ∧
      js.map (fun j => j.k) = (List.range (t.rbc.n - s.rbc.n)).map (fun i => s.rbc.n + i) ∧
      (∀ j ∈ js, j.state = .locking ∧ j.stripe = j.k % g.s ∧ j.outstanding = 0 ∧ j.cells = [] ∧ j.erasures = [] ∧
        j.cutShort = false ∧ j.targets.Pairwise (· < ·) ∧
        ∀ x, x ∈ j.targets ↔ x < g.w ∧ ∃ a ∈ s.rbc.targets, a.position = x ∧ a.state = .active ∧
          a.start ≤ j.k ∧ j.k < a.start + g.s) ∧
      t = js.foldl (fun u j => State.lock (.job j.k) j.stripe .shared
        { u with rbc := { u.rbc with n := u.rbc.n + 1, window := u.rbc.window ++ [j] } }) s

/-- The work of a rebuild job (R121, R123 to R127, R139, R141). READING seeks every row's blocks on the available
positions that are no targets (their order is the model's choice, log 11). COMPUTING reconstructs row by row: a row that
succeeds is counted, one that is UNRECOVERABLE is counted and listed for each target, and an addition that is refused
fails the job and stops the pass ABORTED-LIST-FULL. WRITING writes the strip of each ACTIVE target, zeros in the
unrecoverable rows, which are not handed for trimming, and repairs each MEDIUM block, which is counted; that the strips
come before the repairs, and each by ascending position and then row, is the model's choice too (log 11). With nothing
outstanding it becomes COMPLETE, or FAILED where it was cut short, and gives up its lock. -/
def Obligations.RebuildJobWorks : Prop :=
  (∀ (s : State) (k : Nat) (j : Job) (g : Geometry), s.jobOf k = some j → s.geom = some g →
    (j.state = .locking → ∃ (wanted : List (Nat × Nat)) (missing found : List Cell) (missed : List Miss) (u : State)
      (cmds : List DriveCmd), s.lookups (.job k) g j.stripe wanted = (u, found, missed) ∧
      cmds = readRuns g j.stripe missed ∧
      s.grantJob k = State.laterAll (if cmds = [] then [.job k] else cmds.map fun c => .hand (.job k) c)
        (u.putJob { j with
          state := .reading, cells := missing ++ found, outstanding := j.outstanding + cmds.length }) ∧
      Ascending wanted ∧
      (∀ x row, (x, row) ∈ wanted ↔ x < g.w ∧ row < g.k ∧ x ∉ j.targets ∧ s.available x j.stripe = true) ∧
      ∀ x row, cellAt missing x row =
        if x < g.w ∧ row < g.k ∧ (x ∈ j.targets ∨ s.available x j.stripe = false) then some (.erased .unavailable)
        else none) ∧
    (j.outstanding ≠ 0 ∨ j.state = .complete ∨ j.state = .failed → s.advanceJob k = s) ∧
    (j.outstanding = 0 → j.state ≠ .complete → j.state ≠ .failed → j.cutShort = true →
      s.advanceJob k = State.later .drained (State.unlock (.job k) (s.putJob { j with state := .failed }))) ∧
    (j.outstanding = 0 → j.state = .writing → j.cutShort = false →
      s.advanceJob k = State.later .frontier (State.unlock (.job k) (s.putJob { j with state := .complete }))) ∧
    (j.outstanding = 0 → j.state = .reading → j.cutShort = false →
      ∀ (w : Nat → State) (out : Nat → RowOutcome) (n : Nat), n ≤ g.k → w 0 = s.putJob { j with state := .computing } →
        (∀ i < n, (w i).jobRow { j with state := .computing } g i = (out i, true, w (i + 1))) →
        (n = g.k → ∃ (active : List Nat) (repairs : List WriteItem) (cmds : List DriveCmd),
          active = (w n).rbc.activeOf j ∧ Ascending (repairs.map fun i => (i.position, i.row)) ∧
          (∀ x row c, (∃ i ∈ repairs, i.position = x ∧ i.row = row ∧ i.contents = c ∧ i.trim = false) ↔
            x < g.w ∧ row < g.k ∧ (w n).available x j.stripe = true ∧
            (x, .medium) ∈ (out row).erasures.erased ∧ ∃ f, (out row).full = some f ∧ c = f.onPosition g j.stripe x) ∧
          cmds = active.map (fun x =>
              { position := x, first := g.memberBlock j.stripe 0, count := g.k
                op := .write
                  ((List.range g.k).map fun i => match (out i).full with
                    | some f => f.onPosition g j.stripe x
                    | none => Block.zero)
                  ((List.range g.k).map fun i => (out i).full.isSome) }) ++ writeRuns g j.stripe repairs ∧
          s.advanceJob k = State.laterAll (if cmds = [] then [.job k] else cmds.map fun c => .hand (.job k) c)
            (State.putJob
              { j with
                state := .writing, erasures := (List.range g.k).map (fun i => (out i).erasures)
                outstanding := cmds.length }
              { w n with rbc := { (w n).rbc with
                repairs := min ((w n).rbc.repairs + (writeRuns g j.stripe repairs).length) 4294967295 } })) ∧
        (∀ o v, n < g.k → (w n).jobRow { j with state := .computing } g n = (o, false, v) →
          s.advanceJob k = State.later .drained (State.unlock (.job k) (State.putJob
            { j with state := .failed, erasures := (List.range n).map (fun i => (out i).erasures) ++ [o.erasures] }
            (if v.rbc.state.working = true then
              { v with rbc := { v.rbc with state := .stopping, stopCause := some .abortedListFull } }
            else v)))))) ∧
  ∀ (s : State) (j : Job) (g : Geometry) (row : Nat) (active : List Nat),
    active = j.targets.filter (fun x => s.rbc.targets.any fun t => t.position == x && t.state == .active) →
    (s.jobRow j g row).1 =
      { erasures := s.erasureSet g j.stripe j.cells row, full := reconstruct (s.rowOf g j.stripe j.cells row) } ∧
    (reconstruct (s.rowOf g j.stripe j.cells row) ≠ none → (s.jobRow j g row).2 = (true,
      if active = [] then s
      else { s with rbc := { s.rbc with rowsReconstructed := min (s.rbc.rowsReconstructed + 1) 4294967295 } })) ∧
    (reconstruct (s.rowOf g j.stripe j.cells row) = none → ∀ (u : Nat → State) (n : Nat), n ≤ active.length →
      u 0 = { s with rbc := { s.rbc with rowsUnrecoverable := min (s.rbc.rowsUnrecoverable + 1) 4294967295 } } →
      (∀ i x, i < n → active[i]? = some x →
        (u i).addLost x (g.memberBlock j.stripe row) 1 .unrecoverableRow = (true, u (i + 1))) →
      (n = active.length → (s.jobRow j g row).2 = (true, u n)) ∧
      ∀ x, active[n]? = some x → ((u n).addLost x (g.memberBlock j.stripe row) 1 .unrecoverableRow).1 = false →
        (s.jobRow j g row).2 = (false, u n))

/-- An advance of the frontier, in every state of a pass (R127 to R129, R132, R143). It passes the COMPLETE jobs at the
head of the window and stops before the first that is not. Each ACTIVE target whose range it comes to the end of turns
DONE: its position becomes IN-SERVICE and its entry leaves the list (that the pass keeps it for the end record is the
model's way, log 13). The pass ends COMPLETED where the frontier reaches E; else one record is handed where a target
turned DONE or a multiple of the interval was crossed, and a PAUSING pass whose window is empty becomes PAUSED with a
record of its own (that both are then handed is the model's reading, log 16; that the one record is handed in STOPPING
too, where the same advance drains the pass short of E and the end record follows, is the model's choice, log 16). -/
def Obligations.FrontierAdvances : Prop :=
  (∀ s : State, (∀ j js, s.rbc.window = j :: js → j.state ≠ .complete) →
    s.advanceFrontier = s.later .drained) ∧
  ∀ (s : State) (g : Geometry) (done rest : List Job) (reached : List Target), s.geom = some g →
    s.rbc.window = done ++ rest → done ≠ [] → (∀ j ∈ done, j.state = .complete) →
    (∀ j js, rest = j :: js → j.state ≠ .complete) →
    reached = s.rbc.targets.filter (fun a => a.state == .active && decide (a.start + g.s ≤ s.rbc.f + done.length)) →
    ∃ v : State, v.geom = some g ∧
      v = { s with
        table := v.table
        rbc := { s.rbc with
          f := s.rbc.f + done.length, window := rest
          targets := s.rbc.targets.filter fun a => !reached.contains a
          doneTargets :=
            if reached = [] then s.rbc.doneTargets else reached.map fun a => { a with state := .done } } } ∧
      (∀ x p, s.table.position x = some p → v.table.position x = some
        (if x ∈ reached.map (fun a => a.position) then { p with state := .inService, cause := none } else p)) ∧
      (s.rbc.f + done.length = s.rbc.e → s.advanceFrontier = v.endPass .completed) ∧
      (s.rbc.f + done.length ≠ s.rbc.e → ∀ w,
        w = (if reached ≠ [] ∨ s.rbc.f / s.cps.interval < (s.rbc.f + done.length) / s.cps.interval
          then v.handProgress else v) →
        (s.rbc.state ≠ .pausing ∨ rest ≠ [] → s.advanceFrontier = State.laterAll [.startJobs, .drained] w) ∧
        (s.rbc.state = .pausing → rest = [] → s.advanceFrontier = State.laterAll [.startJobs, .drained]
          (State.handProgress { w with rbc := { w.rbc with state := .paused } })))

/-- The end of a pass (R37, R142, R143). The window is emptied, and each target that is still ACTIVE returns to FAILED with
its channel as its spare and its cause kept, its lines gone; a record that carries the result is handed, which on a
COMPLETED pass names the targets that turned DONE (log 13); then the target list and the stop cause are emptied, the pass
is IDLE, and PASS-ENDED is latched. -/
def Obligations.PassEnds : Prop :=
  ∀ (s t : State) (g : Geometry) (result : PassResult), s.geom = some g → t = s.endPass result →
    ((s.rbc.targets.filter fun a => a.state == .active).map fun a => a.position).Nodup →
    t.rbc = { s.rbc with
      state := .idle, targets := [], doneTargets := [], stopCause := none, window := [], lastResult := result } ∧
    t.eba.attention.getLsbD 2 = true ∧
    ∃ u v : State,
      u = { s with
        table := u.table, cbs := u.cbs, rbc := { s.rbc with window := [], lastResult := result } } ∧
      v = u.giveRecord { number := s.rbc.number, geom := g
                         targets := if result = .completed then s.rbc.targets ++ s.rbc.doneTargets else s.rbc.targets
                         f := s.rbc.f, e := s.rbc.e, result := result } ∧
      t = State.latch .passEnded { v with rbc := t.rbc } ∧ u.geom = some g ∧
      (∀ x p, s.table.position x = some p →
        ((∃ a ∈ s.rbc.targets, a.state = .active ∧ a.position = x) →
          u.table.position x = some { p with state := .failed, channel := none, spare := p.channel } ∧
          ∀ i w l, (u.cbs.sets.get i).line w = some l → l.position ≠ x) ∧
        ((∀ a ∈ s.rbc.targets, a.state = .active → a.position ≠ x) → u.table.position x = some p)) ∧
      ∀ i w l, (s.cbs.sets.get i).line w = some l →
        (∀ a ∈ s.rbc.targets, a.state = .active → a.position ≠ l.position) → (u.cbs.sets.get i).line w = some l

/-! ## Extent service and stripe locks (spec/05, spec/06) -/

/-- What each event of the lock table leaves and whom it grants, in the order of the grants, on a sound table; and the
table stays sound at every one (R78, R81 to R88). A request on a stripe without an entry takes one, or waits in the
table-full queue; on an entry it is granted only where SHARED joins SHARED with no waiter, and else waits. A release that
leaves other holders grants nobody; the last one passes the entry to its head waiter, and with a SHARED one to every
SHARED waiter behind it up to the first EXCLUSIVE one; with no waiter the entry serves the head of the table-full queue
and every record of that stripe. A withdrawal removes the waiter, and grants the SHARED waiters that come to the head of a
SHARED entry. The grants of an event are handed in that order (R83). -/
def Obligations.LocksGrantedInOrder : Prop :=
  (∀ (t : LockTable) (r : Requester), t.Sound →
    (∀ stripe mode, (t.request r stripe mode).table.Sound) ∧ (t.release r).table.Sound ∧
      (t.withdraw r).table.Sound) ∧
  (∀ (t : LockTable) (r : Requester) (stripe : Nat) (mode : LockMode),
    ((∀ e ∈ t.entries, e.stripe ≠ stripe) →
      (t.entries.length < 48 → t.request r stripe mode =
        { table := { t with entries := t.entries ++
            [{ stripe := stripe, mode := mode, holders := [r], waiters := [] }] }, granted := [r] }) ∧
      (48 ≤ t.entries.length → t.request r stripe mode =
        { table := { t with fullQueue := t.fullQueue ++ [{ requester := r, stripe := stripe, mode := mode }] }
          granted := [] })) ∧
    ∀ e ∈ t.entries, e.stripe = stripe → t.Sound →
      (mode = .shared → e.mode = .shared → e.waiters = [] → t.request r stripe mode =
        { table := t.putEntry { e with holders := e.holders ++ [r] }, granted := [r] }) ∧
      (mode = .exclusive ∨ e.mode = .exclusive ∨ e.waiters ≠ [] → t.request r stripe mode =
        { table := t.putEntry { e with waiters := e.waiters ++ [{ requester := r, mode := mode }] }
          granted := [] })) ∧
  (∀ (t : LockTable) (r : Requester), t.Sound →
    ((∀ e ∈ t.entries, r ∉ e.holders) → t.release r = { table := t, granted := [] }) ∧
    ∀ e ∈ t.entries, r ∈ e.holders → (∀ e' ∈ t.entries, r ∈ e'.holders → e' = e) →
      ((∃ h ∈ e.holders, h ≠ r) → t.release r =
        { table := t.putEntry { e with holders := e.holders.filter fun h => h != r }, granted := [] }) ∧
      ((∀ h ∈ e.holders, h = r) →
        (∀ w ws, e.waiters = w :: ws → w.mode = .exclusive → t.release r =
          { table := t.putEntry { e with mode := .exclusive, holders := [w.requester], waiters := ws }
            granted := [w.requester] }) ∧
        (∀ run rest, e.waiters = run ++ rest → run ≠ [] → (∀ w ∈ run, w.mode = .shared) →
          (∀ w ws, rest = w :: ws → w.mode = .exclusive) → t.release r =
          { table := t.putEntry { e with
              mode := .shared, holders := run.map fun w => w.requester, waiters := rest }
            granted := run.map fun w => w.requester }) ∧
        (e.waiters = [] → t.fullQueue = [] → t.release r =
          { table := { t with entries := t.entries.filter fun x => x.stripe != e.stripe }, granted := [] }) ∧
        ∀ h rest run later, e.waiters = [] → t.fullQueue = h :: rest →
          (rest.filter fun w => w.stripe == h.stripe) = run ++ later →
          (h.mode = .exclusive → run = []) → (h.mode = .shared → (∀ w ∈ run, w.mode = .shared) ∧
            ∀ w ws, later = w :: ws → w.mode = .exclusive) →
          t.release r =
            { table :=
                { entries := (t.entries.filter fun x => x.stripe != e.stripe) ++
                    [{ stripe := h.stripe, mode := h.mode
                       holders := h.requester :: run.map fun w => w.requester
                       waiters := later.map fun w => { requester := w.requester, mode := w.mode } }]
                  fullQueue := rest.filter fun w => w.stripe != h.stripe }
              granted := h.requester :: run.map fun w => w.requester })) ∧
  (∀ (t : LockTable) (r : Requester),
    ((∀ e ∈ t.entries, ∀ w ∈ e.waiters, w.requester ≠ r) → t.withdraw r =
      { table := { t with fullQueue := t.fullQueue.filter fun w => w.requester != r }, granted := [] }) ∧
    ∀ e ∈ t.entries, (∀ e' ∈ t.entries, (∃ w ∈ e'.waiters, w.requester = r) → e' = e) →
      ∀ w ws, e.waiters = w :: ws →
        (w.requester ≠ r → (∃ w' ∈ ws, w'.requester = r) → t.withdraw r =
          { table := t.putEntry { e with waiters := e.waiters.filter fun w => w.requester != r }, granted := [] }) ∧
        (w.requester = r → e.mode = .exclusive → t.withdraw r =
          { table := t.putEntry { e with waiters := e.waiters.filter fun w => w.requester != r }, granted := [] }) ∧
        ∀ run rest, w.requester = r → e.mode = .shared →
          (e.waiters.filter fun w => w.requester != r) = run ++ rest → (∀ w ∈ run, w.mode = .shared) →
          (∀ w ws, rest = w :: ws → w.mode = .exclusive) → t.withdraw r =
          { table := t.putEntry { e with
              holders := e.holders ++ run.map fun w => w.requester, waiters := rest }
            granted := run.map fun w => w.requester }) ∧
  ∀ (s : State) (r : Requester) (stripe : Nat) (mode : LockMode) (taken : LockResult → State),
    (∀ l, taken l = State.laterAll (l.granted.map fun q => .granted q) { s with slt := l.table }) →
    s.lock r stripe mode = taken (s.slt.request r stripe mode) ∧ s.unlock r = taken (s.slt.release r) ∧
    ((∀ e ∈ s.slt.entries, r ∉ e.holders) → s.giveUp r = taken (s.slt.withdraw r)) ∧
    ((∃ e ∈ s.slt.entries, r ∈ e.holders) → s.giveUp r = taken (s.slt.release r))

/-- The extent requests accepted and refused. A WRITE-EXTENT on a stripe that nobody holds takes an entry and the
EXCLUSIVE lock, enters DATA-WAIT with its timer running, and hands the GRANT of its first segment (R81, R94, R101).
A READ-EXTENT that is accepted takes an entry in LOCK-WAIT and asks for its first stripe SHARED; on a stripe
that nobody holds the grant follows at once, and on one held EXCLUSIVE it waits (R81, R82, R94). The refusals of both,
in the order of R94's checks; each leaves everything else as it was. -/
def Obligations.ExtentRequestsTaken : Prop :=
  (∀ (s : State) (tag first n : Nat) (d : ArrayDef), s.Open tag → s.agenda = [] →
    s.table.definition = some d → s.table.state ≠ .failed → (∀ r ∈ s.esu.requests, r.tag ≠ tag) →
    s.esu.requests.length < 32 → 1 ≤ n → n ≤ 256 → first + n ≤ d.geom.capacity →
    s.slt.entryOf (d.geom.stripeOf first) = none → s.slt.entries.length < 48 →
    exec (.writeExtent tag first n) s = .next (State.handFrame
      (.grant tag first (min (first + n) ((d.geom.stripeOf first + 1) * d.geom.stripeBlocks) - first) 0)
      { s with
        esu := { requests := s.esu.requests ++ [{
          tag := tag, kind := .write, first := first, count := n, segment := 0, blocksDone := 0, lostCount := 0
          firstLost := none, state := .dataWait, outstanding := 0, endPending := none
          work := { cells := [], rebuilding := [], round := 1, erasures := []
                    grant := some (0, min (first + n) ((d.geom.stripeOf first + 1) * d.geom.stripeBlocks) - first)
                    received := [], dataTimer := true, method := none, writeSet := [] } }] }
        slt := { s.slt with entries := s.slt.entries ++ [{
          stripe := d.geom.stripeOf first, mode := .exclusive, holders := [.extent tag], waiters := [] }] } })) ∧
  (∀ (s u : State) (tag first n : Nat) (d : ArrayDef), s.Open tag → s.agenda = [] →
    s.table.definition = some d → s.table.state ≠ .failed → (∀ r ∈ s.esu.requests, r.tag ≠ tag) →
    s.esu.requests.length < 32 → 1 ≤ n → n ≤ 256 → first + n ≤ d.geom.capacity →
    u = { s with esu := { requests := s.esu.requests ++ [{
      tag := tag, kind := .read, first := first, count := n, segment := 0, blocksDone := 0, lostCount := 0
      firstLost := none, state := .lockWait, outstanding := 0, endPending := none
      work := { cells := [], rebuilding := [], round := 1, erasures := [], grant := none, received := []
                dataTimer := false, method := none, writeSet := [] } }] } } →
    (s.slt.entryOf (d.geom.stripeOf first) = none → s.slt.entries.length < 48 →
      exec (.readExtent tag first n) s = .next (State.settle { u with
        slt := { s.slt with entries := s.slt.entries ++ [{
          stripe := d.geom.stripeOf first, mode := .shared, holders := [.extent tag], waiters := [] }] }
        agenda := [.granted (.extent tag)] })) ∧
    (∀ e, s.slt.entryOf (d.geom.stripeOf first) = some e → e.mode = .exclusive →
      exec (.readExtent tag first n) s = .next { u with
        slt := s.slt.putEntry { e with
          waiters := e.waiters ++ [{ requester := .extent tag, mode := .shared }] } })) ∧
  ∀ (s : State) (tag first n : Nat), s.Open tag → s.agenda = [] →
    ∀ status : Status,
      ((∃ r ∈ s.esu.requests, r.tag = tag) ∧ status = .tagInUse) ∨
      ((∀ r ∈ s.esu.requests, r.tag ≠ tag) ∧
        ((32 ≤ s.esu.requests.length ∧ status = .queueFull) ∨
        (s.esu.requests.length < 32 ∧
          (((n = 0 ∨ 256 < n) ∧ status = .badValue) ∨
          (1 ≤ n ∧ n ≤ 256 ∧
            ((s.table.definition = none ∧ status = .notDefined) ∨
            (s.table.state = .failed ∧ status = .arrayFailed) ∨
            (∃ d, s.table.definition = some d ∧ s.table.state ≠ .failed ∧ d.geom.capacity < first + n ∧
              status = .range))))))) →
      exec (.readExtent tag first n) s = .next (s.reply tag status .empty) ∧
      exec (.writeExtent tag first n) s = .next (s.reply tag status .empty)

/-- A DATA frame is held in the current grant of a write in DATA-WAIT, a second one for an index replacing the
first; any other is discarded as UNGRANTED-DATA; the one that completes the grant sets the segment to choose its
method (R102, R104). -/
def Obligations.DataFramesTaken : Prop :=
  ∀ (s : State) (tag index : Nat), s.ali.taking = true → s.agenda = [] →
    (∀ (r r1 : ExtentReq) (g : Geometry) (b : Block) (first count : Nat), s.request tag = some r →
      s.geom = some g → r.kind = .write → r.state = .dataWait → r.work.grant = some (first, count) →
      first ≤ index → index < first + count →
      r1 = { r with work := { r.work with
        received := (r.work.received.filter fun e => e.1 != index) ++ [(index, b)] } } →
      ((∃ i, first ≤ i ∧ i < first + count ∧ ∀ e ∈ r1.work.received, e.1 ≠ i) →
        exec (.data tag index (some b)) s = .next (s.putRequest r1)) ∧
      ((∀ i, first ≤ i → i < first + count → ∃ e ∈ r1.work.received, e.1 = i) →
        exec (.data tag index (some b)) s = .next (State.settle (s.chooseMethod r1 g)))) ∧
    (∀ block, (s.request tag = none ∨ block = none ∨
        ∃ r, s.request tag = some r ∧ (r.kind = .read ∨ r.state ≠ .dataWait ∨
          ∃ first count, r.work.grant = some (first, count) ∧ (index < first ∨ first + count ≤ index))) →
      exec (.data tag index block) s = .next (s.takeError 13
        { code := .ungrantedData, uncorrected := true, block := some index, count := 1,
          kind := some (.frame 0x03), owner := some (.request tag) }))

/-- CANCEL by the state of the request it names (R112): NOT-FOUND; an end at once with its reply ahead of
CANCEL's own; or a mark that takes effect when the segment ends. The data wait timer that expires gives up the
lock and ends the request with DATA-TIMEOUT and the blocks of its earlier segments (R103). That an expiry which finds no
request has no effect is the model's choice (log 18). That the work of a grant which the release or the withdrawal makes
comes before the ended request's reply is the model's order (log 4). -/
def Obligations.RequestsEndedEarly : Prop :=
  (∀ (s : State) (tag target : Nat), s.Open tag → s.agenda = [] →
    (s.request target = none → exec (.cancel tag target) s = .next (s.reply tag .notFound .empty)) ∧
    ∀ r, s.request target = some r → r.tag = target →
      (r.state = .dataWait → exec (.cancel tag target) s = .next (State.settle (State.laterAll
        [.frame (.reply target .cancelled (.extent r.blocksDone r.lostCount r.firstLost)),
         .frame (.reply tag .ok .empty)]
        (State.dropRequest target (s.unlock (.extent target)))))) ∧
      (r.state = .lockWait → exec (.cancel tag target) s = .next (State.settle (State.laterAll
        [.frame (.reply target .cancelled (.extent r.blocksDone r.lostCount r.firstLost)),
         .frame (.reply tag .ok .empty)]
        (State.dropRequest target (s.giveUp (.extent target)))))) ∧
      (r.state ∈ [.gather, .compute, .writeOut, .send] → r.endPending = none →
        exec (.cancel tag target) s = .next (State.reply tag .ok .empty
          (s.putRequest { r with endPending := some .cancelled }))) ∧
      (r.state ∈ [.gather, .compute, .writeOut, .send] → ∀ e, r.endPending = some e →
        exec (.cancel tag target) s = .next (State.reply tag .ok .empty (s.putRequest r)))) ∧
  ∀ (s : State) (tag : Nat), s.agenda = [] →
    (∀ r, s.request tag = some r → r.tag = tag → r.state = .dataWait → r.work.dataTimer = true →
      exec (.dataWaitExpiry tag) s = .next (State.settle (State.later
        (.frame (.reply tag .dataTimeout (.extent r.blocksDone r.lostCount r.firstLost)))
        (State.dropRequest tag (s.unlock (.extent tag)))))) ∧
    (s.request tag = none → exec (.dataWaitExpiry tag) s = .next s)

/-- A round of lookups and READs (R65, R96, R109, R123, R126). Each block sought is found or missed, and a lookup
touches the buffer store, its bank and the sending of a NOTICE only. A segment's round records what was found and hands
one READ for each run of missed blocks, or goes on at once where none missed. Each lookup is made on the state that the one
before it left; a block found has the contents of its hit, and a block missed the note of its miss. The READs of the missed blocks, and the
WRITEs of blocks to write, hold exactly those blocks in their order, with the refetch notes, and the contents and
trims, of each; no two next to each other could be one run. The order of a round is the model's choice (log 11). -/
def Obligations.RoundsReadWhatMisses : Prop :=
  (∀ (s u : State) (o : Owner) (g : Geometry) (stripe : Nat) (ps : List (Nat × Nat)) (found : List Cell)
    (missed : List Miss), s.lookups o g stripe ps = (u, found, missed) →
    u = { s with ali := u.ali, cbs := u.cbs, eba := u.eba } ∧
    (found.map fun c => (c.position, c.row)).Sublist ps ∧ (missed.map fun m => (m.position, m.row)).Sublist ps ∧
    (∀ p ∈ ps, p ∈ found.map (fun c => (c.position, c.row)) ∨ p ∈ missed.map fun m => (m.position, m.row)) ∧
    found.length + missed.length = ps.length ∧ (∀ c ∈ found, ∃ b, c.outcome = .good b) ∧
    ∃ (v : Nat → State) (ends : List LookupEnd), v 0 = s ∧ v ps.length = u ∧ ends.length = ps.length ∧
      (∀ i x row e, ps[i]? = some (x, row) → ends[i]? = some e →
        (v i).lookup o x (g.memberBlock stripe row) = (v (i + 1), e)) ∧
      found = (ps.zip ends).filterMap (fun p => match p.2 with
        | .hit b => some { position := p.1.1, row := p.1.2, outcome := .good b }
        | .miss _ => none) ∧
      missed = (ps.zip ends).filterMap (fun p => match p.2 with
        | .hit _ => none
        | .miss note => some { position := p.1.1, row := p.1.2, note := note })) ∧
  (∀ (s u : State) (r r1 : ExtentReq) (g : Geometry) (wanted : List (Nat × Nat)) (found : List Cell)
    (missed : List Miss), s.lookups (.segment r.tag) g (r.stripe g) wanted = (u, found, missed) →
    r1 = { r with
      outstanding := r.outstanding + (readRuns g (r.stripe g) missed).length
      work := { r.work with cells := r.work.cells ++ found } } →
    s.segmentRound r g wanted =
      if missed = [] then State.later (.segment r.tag) (u.putRequest r1)
      else State.laterAll ((readRuns g (r.stripe g) missed).map fun c => .hand (.segment r.tag) c) (u.putRequest r1)) ∧
  (∀ (g : Geometry) (stripe : Nat) (ms : List Miss) (cs : List DriveCmd), cs = readRuns g stripe ms →
    (cs.flatMap fun c => (List.range c.count).map fun i => (c.position, c.first + i)) =
      ms.map (fun m => (m.position, g.memberBlock stripe m.row)) ∧
    (∀ c ∈ cs, 0 < c.count ∧ ∃ notes, c.op = .read notes) ∧
    (cs.flatMap fun c => match c.op with
      | .read notes => notes
      | .write .. => []) =
      ms.flatMap (fun m => (m.note.map fun w => { block := g.memberBlock stripe m.row, way := w }).toList) ∧
    ∀ i c c', cs[i]? = some c → cs[i + 1]? = some c' → ¬(c'.position = c.position ∧ c'.first = c.first + c.count)) ∧
  ∀ (g : Geometry) (stripe : Nat) (ms : List WriteItem) (cs : List DriveCmd), cs = writeRuns g stripe ms →
    (cs.flatMap fun c => (List.range c.count).map fun i => (c.position, c.first + i)) =
      ms.map (fun m => (m.position, g.memberBlock stripe m.row)) ∧
    (∀ c ∈ cs, 0 < c.count ∧ ∃ bs flags, c.op = .write bs flags ∧ bs.length = c.count ∧ flags.length = c.count) ∧
    (cs.flatMap fun c => match c.op with
      | .read _ => []
      | .write bs flags => bs.zip flags) = ms.map (fun m => (m.contents, m.trim)) ∧
    ∀ i c c', cs[i]? = some c → cs[i + 1]? = some c' → ¬(c'.position = c.position ∧ c'.first = c.first + c.count)

/-- The rounds of a read segment (R96, R97). Its first round makes each touched row reconstructing in which a requested
block is unavailable or listed, and seeks the requested blocks of a plain row and every available block of a
reconstructing one, by ascending position and row (the order is the model's choice, log 11). When a requested block of a
plain row has ended as an erasure, one second round turns those rows and seeks every available block of them that is not
held, one whose READ ended as an erasure too (the model's reading, log 12); the causes of the first round stay. -/
def Obligations.ReadSegmentGathers : Prop :=
  ∀ (s : State) (tag stripe : Nat) (r : ExtentReq) (g : Geometry), s.request tag = some r → s.geom = some g →
    r.kind = .read → stripe = g.stripeOf r.first + r.segment →
    (r.state = .lockWait → ∃ (rows : List Nat) (missing : List Cell) (wanted : List (Nat × Nat)),
      s.grantRequest tag = s.segmentRound { r with
        state := .gather
        work := { cells := missing, rebuilding := rows, round := 1, erasures := [], grant := none, received := []
                  dataTimer := false, method := none, writeSet := [] } } g wanted ∧
      (∀ row, row ∈ rows ↔ row < g.k ∧ ∃ b ∈ r.blocks g, b.row = row ∧
        (s.available b.position stripe = false ∨ s.lel.listed b.position (g.memberBlock stripe row) = true)) ∧
      (∀ x row, (x, row) ∈ wanted ↔ x < g.w ∧ row < g.k ∧ (∃ b ∈ r.blocks g, b.row = row) ∧
        (if row ∈ rows then s.available x stripe = true else ∃ b ∈ r.blocks g, b.row = row ∧ b.position = x)) ∧
      Ascending wanted ∧
      ∀ x row, cellAt missing x row =
        if x < g.w ∧ row ∈ rows ∧ s.available x stripe = false then some (.erased .unavailable) else none) ∧
    (r.state = .gather → r.outstanding = 0 → r.endPending ≠ some .arrayFailed →
      ((r.work.round ≠ 1 ∨ ∀ b ∈ r.blocks g, b.row ∉ r.work.rebuilding →
          ∀ cause, cellAt r.work.cells b.position b.row ≠ some (.erased cause)) →
        s.advanceRequest tag = s.computeRead r g) ∧
      (r.work.round = 1 → (∃ b ∈ r.blocks g, b.row < g.k ∧ b.row ∉ r.work.rebuilding ∧
          ∃ cause, cellAt r.work.cells b.position b.row = some (.erased cause)) →
        ∃ (rows : List Nat) (cells : List Cell) (sought : List (Nat × Nat)),
          s.advanceRequest tag = s.segmentRound { r with
            work := { r.work with round := 2, rebuilding := r.work.rebuilding ++ rows, cells := cells } } g sought ∧
          (∀ row, row ∈ rows ↔ row < g.k ∧ row ∉ r.work.rebuilding ∧ ∃ b ∈ r.blocks g, b.row = row ∧
            ∃ cause, cellAt r.work.cells b.position row = some (.erased cause)) ∧
          (∀ x row, (x, row) ∈ sought ↔ x < g.w ∧ row ∈ rows ∧ s.available x stripe = true ∧
            ∀ b, cellAt r.work.cells x row ≠ some (.good b)) ∧
          Ascending sought ∧
          ∀ x row, cellAt cells x row =
            if x < g.w ∧ row ∈ rows ∧ s.available x stripe = false ∧
              ∀ b, cellAt r.work.cells x row ≠ some (.good b) then some (.erased .unavailable)
            else cellAt r.work.cells x row))

/-- What a read segment sends (R98, R99): each requested block as it was supplied at that moment, else as its row's
reconstruction gives it, else as LOST, which its request counts, in ascending order. Every reconstructing row, and every
row that lacks a requested block, is handed to the PAU with its erasure set, and each of its blocks that is MEDIUM on an
available position is written back where it can be produced; R98 names no order for these repairs, and the model takes
them by ascending position and then row (log 11). -/
def Obligations.ReadSegmentSends : Prop :=
  ∀ (s : State) (r : ExtentReq) (g : Geometry) (stripe : Nat), 0 < g.k → stripe = g.stripeOf r.first + r.segment →
    ∃ (contents : List (Option Block)) (rows : List Nat) (repairs : List WriteItem) (cmds : List DriveCmd),
      contents = (r.blocks g).map (fun b =>
        match s.supplied g stripe r.work.cells b.position b.row with
        | some c => some c
        | none => (reconstruct (s.rowOf g stripe r.work.cells b.row)).map fun f => f.onPosition g stripe b.position) ∧
      rows.Pairwise (· < ·) ∧
      (∀ row, row ∈ rows ↔ row < g.k ∧ ∃ b ∈ r.blocks g, b.row = row ∧
        (row ∈ r.work.rebuilding ∨ s.supplied g stripe r.work.cells b.position row = none)) ∧
      Ascending (repairs.map fun i => (i.position, i.row)) ∧
      (∀ i, i ∈ repairs ↔ i.position < g.w ∧ i.row ∈ rows ∧ i.trim = false ∧ s.available i.position stripe = true ∧
        s.erasure g stripe r.work.cells i.position i.row = some .medium ∧
        ∃ f, reconstruct (s.rowOf g stripe r.work.cells i.row) = some f ∧
          i.contents = f.onPosition g stripe i.position) ∧
      cmds = writeRuns g stripe repairs ∧
      s.computeRead r g = State.laterAll
        (if cmds = [] then [.segment r.tag] else cmds.map fun c => .hand (.segment r.tag) c)
        (State.putRequest { r with
            state := .send
            outstanding := r.outstanding + cmds.length
            lostCount := r.lostCount + (contents.filter Option.isNone).length
            firstLost := match r.firstLost with
              | some l => some l
              | none => (((r.blocks g).zip contents).find? fun e => e.2.isNone).map fun e => e.1.array
            work := { r.work with erasures := rows.map fun row => s.erasureSet g stripe r.work.cells row } }
          (((r.blocks g).zip contents).foldl (fun u e => u.handFrame (.data r.tag e.1.index e.2)) s))

/-- The method of a write segment and what it obtains (R104, R106, R107). FULL for a whole stripe, else READ-MODIFY
where every written block is available and not listed, else RECONSTRUCT, with the write set of Table 6-2. READ-MODIFY
seeks the old blocks of its write set in the rows with P or Q in it, and falls back to RECONSTRUCT, whose write set is
formed anew, when one is an erasure. RECONSTRUCT seeks the untouched blocks of those rows, and in a second round every
other block of a row in which one is an erasure. The order is the model's choice (log 11); what the second round seeks
again is its reading (log 12), and so is the row that an erasure set describes (log 25). -/
def Obligations.WriteSegmentGathers : Prop :=
  (∀ (s : State) (r : ExtentReq) (g : Geometry),
    ∃ (m : WriteMethod) (ws wanted : List (Nat × Nat)) (cells : List Cell) (r1 : ExtentReq),
    (m = .full ↔ (r.blocks g).length = g.stripeBlocks) ∧
    (m = .readModify ↔ (r.blocks g).length ≠ g.stripeBlocks ∧ ∀ b ∈ r.blocks g,
      s.available b.position (r.stripe g) = true ∧
        s.lel.listed b.position (g.memberBlock (r.stripe g) b.row) = false) ∧
    (∀ x row, (x, row) ∈ ws ↔ s.Writes r g m x row) ∧
    r1 = { r with
      state := .gather
      work := { r.work with dataTimer := false, method := some m, writeSet := ws, cells := cells } } ∧
    (m = .full → cells = r.work.cells ∧ s.chooseMethod r g = State.later (.segment r.tag) (s.putRequest r1)) ∧
    (m = .readModify → cells = r.work.cells ∧ s.chooseMethod r g = s.segmentRound r1 g wanted ∧
      Ascending wanted ∧ ∀ x row, (x, row) ∈ wanted ↔ r1.NeedsOld g row ∧ (x, row) ∈ ws) ∧
    (m = .reconstruct → s.chooseMethod r g = s.segmentRound r1 g wanted ∧ s.FirstRound r r1 g wanted)) ∧
  ∀ (s : State) (tag : Nat) (r : ExtentReq) (g : Geometry), s.request tag = some r → s.geom = some g →
    r.kind = .write → r.state = .gather → r.outstanding = 0 → r.endPending ≠ some .arrayFailed →
    (r.work.method = some .full → s.advanceRequest tag = s.computeWrite r g) ∧
    (r.work.method = some .readModify →
      ((∀ x row, x < g.w → r.NeedsOld g row → (x, row) ∈ r.work.writeSet →
          s.supplied g (r.stripe g) r.work.cells x row ≠ none) →
        s.advanceRequest tag = s.computeWrite r g) ∧
      (∀ x row, x < g.w → r.NeedsOld g row → (x, row) ∈ r.work.writeSet →
          s.supplied g (r.stripe g) r.work.cells x row = none →
        ∃ (ws wanted : List (Nat × Nat)) (cells : List Cell) (rows : List Nat) (r1 : ExtentReq),
          r1 = { r with work := { r.work with
            method := some .reconstruct, writeSet := ws, cells := cells
            erasures := rows.map fun row => s.erasureSet g (r.stripe g) r.work.cells row } } ∧
          s.advanceRequest tag = s.segmentRound r1 g wanted ∧ s.FirstRound r r1 g wanted ∧
          (∀ x row, (x, row) ∈ ws ↔ s.Writes r g .reconstruct x row) ∧
          rows.Pairwise (· < ·) ∧ ∀ row, row ∈ rows ↔ r.NeedsOld g row)) ∧
    (r.work.method = some .reconstruct →
      (r.work.round ≠ 1 ∨ (∀ x row, r.Keeps g x row → s.supplied g (r.stripe g) r.work.cells x row ≠ none) →
        s.advanceRequest tag = s.computeWrite r g) ∧
      (r.work.round = 1 →
        ∀ x row, r.Keeps g x row → s.supplied g (r.stripe g) r.work.cells x row = none →
        ∃ (rows : List Nat) (cells : List Cell) (sought : List (Nat × Nat)),
          s.advanceRequest tag = s.segmentRound { r with
            work := { r.work with round := 2, rebuilding := r.work.rebuilding ++ rows, cells := cells } } g sought ∧
          Ascending sought ∧
          (∀ row, row ∈ rows ↔ ∃ x, r.Keeps g x row ∧ s.supplied g (r.stripe g) r.work.cells x row = none) ∧
          (∀ x row, (x, row) ∈ sought ↔ x < g.w ∧ row ∈ rows ∧ ¬r.Keeps g x row ∧
            s.available x (r.stripe g) = true ∧ ∀ b, cellAt r.work.cells x row ≠ some (.good b)) ∧
          (∀ x row, x < g.w → row ∈ rows → ¬r.Keeps g x row → s.available x (r.stripe g) = false →
            (∀ b, cellAt r.work.cells x row ≠ some (.good b)) → cellAt cells x row = some (.erased .unavailable)) ∧
          ∀ x row, ¬(x < g.w ∧ row ∈ rows ∧ ¬r.Keeps g x row ∧ s.available x (r.stripe g) = false ∧
            ∀ b, cellAt r.work.cells x row ≠ some (.good b)) → cellAt cells x row = cellAt r.work.cells x row))

/-- What a write segment writes (R105 to R109): the new data of its write set, and P and Q of each of its rows by
encoding the row as it will stand, or under READ-MODIFY by the change of each written block in ascending data index;
untouched blocks that were MEDIUM are repaired. A segment that needs an untouched block which cannot be produced writes
nothing, and its request ends MEDIUM-LOST with its blocks counted lost. Four points are the model's own reading: that it
does so with a CANCELLED ending pending too (log 17), that a row whose untouched block was listed after it was read is
reconstructed (log 21), that the erasure sets are those of the old rows (log 25), and the order of the WRITEs (log 11). -/
def Obligations.WriteSegmentWrites : Prop :=
  (∀ (r : ExtentReq) (g : Geometry), g.valid = true → ∀ b ∈ r.blocks g,
    r.newBlock g b.position b.row = (r.work.received.find? fun e => e.1 == b.index).map fun e => e.2) ∧
  ∀ (s : State) (r : ExtentReq) (g : Geometry) (m : WriteMethod) (old : Nat → Nat → Option Block)
    (produced : Nat → Option FullRow) (data : Nat → Nat → Option Block) (rows : List Nat), r.work.method = some m →
    (∀ x row, old x row = s.supplied g (r.stripe g) r.work.cells x row) →
    (∀ row, m = .reconstruct → (∃ x, r.Keeps g x row ∧ old x row = none) →
      produced row = reconstruct (s.rowOf g (r.stripe g) r.work.cells row)) →
    (∀ row, (m ≠ .reconstruct ∨ ∀ x, r.Keeps g x row → old x row ≠ none) → produced row = none) →
    (∀ x row, data x row = ((r.newBlock g x row).or (old x row)).or
      ((produced row).map fun f => f.onPosition g (r.stripe g) x)) →
    rows.Pairwise (· < ·) → (∀ row, row ∈ rows ↔ if m = .full then r.Touches g row else r.NeedsOld g row) →
    (m = .reconstruct → (∃ x row, r.Keeps g x row ∧ old x row = none ∧ produced row = none) →
      s.computeWrite r g = State.later
        (.frame (.reply r.tag .mediumLost (.extent r.blocksDone (r.lostCount + (r.blocks g).length)
          (some (r.firstLost.getD (g.segFirst r.first r.segment))))))
        (State.dropRequest r.tag (s.unlock (.extent r.tag)))) ∧
    ((m = .reconstruct → ∀ x row, r.Keeps g x row → old x row = none → produced row ≠ none) →
      ∃ (items : List WriteItem) (cmds : List DriveCmd),
        s.computeWrite r g = State.laterAll
          (if cmds = [] then [.segment r.tag] else cmds.map fun c => .hand (.segment r.tag) c)
          (s.putRequest { r with
            state := .writeOut
            outstanding := r.outstanding + cmds.length
            work := { r.work with
              erasures := rows.map fun row => s.erasureSet g (r.stripe g) r.work.cells row } }) ∧
        cmds = writeRuns g (r.stripe g) items ∧
        Ascending (items.map fun i => (i.position, i.row)) ∧
        (∀ x row, (∃ i ∈ items, i.position = x ∧ i.row = row ∧ i.trim = true) ↔
          x < g.w ∧ r.Touches g row ∧ (x, row) ∈ r.work.writeSet) ∧
        (∀ i ∈ items, i.trim = true →
          (¬r.ParityOn g i.position → ∀ b, r.newBlock g i.position i.row = some b → i.contents = b) ∧
          (m ≠ .readModify → i.position = g.posP (r.stripe g) →
            i.contents = (encode ((List.range g.d).map fun d =>
              (data (g.posData (r.stripe g) d) i.row).getD Block.zero)).1) ∧
          (m ≠ .readModify → i.position = g.posQ (r.stripe g) → g.posQ (r.stripe g) ≠ g.posP (r.stripe g) →
            i.contents = (encode ((List.range g.d).map fun d =>
              (data (g.posData (r.stripe g) d) i.row).getD Block.zero)).2) ∧
          (m = .readModify → i.position = g.posP (r.stripe g) →
            i.contents = (List.range g.d).foldl
              (fun p d => match r.newBlock g (g.posData (r.stripe g) d) i.row with
                | some b => deltaP p ((old (g.posData (r.stripe g) d) i.row).getD Block.zero) b
                | none => p)
              ((old i.position i.row).getD Block.zero)) ∧
          (m = .readModify → i.position = g.posQ (r.stripe g) → g.posQ (r.stripe g) ≠ g.posP (r.stripe g) →
            i.contents = (List.range g.d).foldl
              (fun q d => match r.newBlock g (g.posData (r.stripe g) d) i.row with
                | some b => deltaQ d q ((old (g.posData (r.stripe g) d) i.row).getD Block.zero) b
                | none => q)
              ((old i.position i.row).getD Block.zero))) ∧
        ∀ x row c, (∃ i ∈ items, i.position = x ∧ i.row = row ∧ i.trim = false ∧ i.contents = c) ↔
          r.Keeps g x row ∧ (x, row) ∉ r.work.writeSet ∧ s.available x (r.stripe g) = true ∧
            s.erasure g (r.stripe g) r.work.cells x row = some .medium ∧
            ∃ f, produced row = some f ∧ c = f.onPosition g (r.stripe g) x)

/-- The end of a segment and of its request (R95, R100, R109, R111, R112, R115). Nothing happens while a command of the
segment is outstanding. Then its blocks are done and its lock is released; next, behind the work of a grant that the
release made (log 4), a pending ending ends the request with its status, else the next segment asks for its stripe,
SHARED for a read and EXCLUSIVE for a write, and the last one ends with OK, or MEDIUM-LOST for a read that lost a block.
A request that is ending ARRAY-FAILED ends at once, with the blocks of its segment counted if a read has sent them. -/
def Obligations.SegmentsEnd : Prop :=
  ∀ (s : State) (tag : Nat) (r : ExtentReq) (g : Geometry), s.request tag = some r → r.tag = tag → s.geom = some g →
    (r.outstanding ≠ 0 → s.advanceRequest tag = s) ∧
    (r.outstanding = 0 → r.state = .writeOut ∨ r.state = .send → r.endPending ≠ some .arrayFailed →
      s.advanceRequest tag = State.later (.nextSegment tag) (State.unlock (.extent tag)
        (s.putRequest { r with
          blocksDone := r.blocksDone + (r.blocks g).length
          state := .lockWait
          work := { cells := [], rebuilding := [], round := 1, erasures := [], grant := none, received := []
                    dataTimer := false, method := none, writeSet := [] } }))) ∧
    (∀ e, r.endPending = some e → s.nextSegment tag = State.later
      (.frame (.reply tag (if e = .cancelled then .cancelled else .arrayFailed)
        (.extent r.blocksDone r.lostCount r.firstLost))) (s.dropRequest tag)) ∧
    (r.endPending = none → r.segment + 1 < g.segments r.first r.count →
      s.nextSegment tag = State.lock (.extent tag) (g.stripeOf r.first + r.segment + 1)
        (if r.kind = .read then .shared else .exclusive)
        (s.putRequest { r with
          segment := r.segment + 1
          state := .lockWait
          work := { cells := [], rebuilding := [], round := 1, erasures := [], grant := none, received := []
                    dataTimer := false, method := none, writeSet := [] } })) ∧
    (r.endPending = none → g.segments r.first r.count ≤ r.segment + 1 →
      s.nextSegment tag = State.later
        (.frame (.reply tag (if r.kind = .read ∧ r.lostCount ≠ 0 then .mediumLost else .ok)
          (.extent r.blocksDone r.lostCount r.firstLost))) (s.dropRequest tag)) ∧
    (r.outstanding = 0 → r.state ∈ [.gather, .compute, .writeOut, .send] → r.endPending = some .arrayFailed →
      s.advanceRequest tag = State.later
        (.frame (.reply tag .arrayFailed
          (.extent (if r.state = .send then r.blocksDone + (r.blocks g).length else r.blocksDone) r.lostCount
            r.firstLost)))
        (State.dropRequest tag (s.unlock (.extent tag))))

/-! ## Drive channels (spec/03) -/

/-- SET-SHARE holds its value to 1 to 4, and a raised share sets the arbiter of each READY channel to work
(R51). SET-CHANNEL holds the timeout to 500 to 60000 ms and stores the enable in the channel's bank (R58); what a
byte above 1 stores is left open (log 7). -/
def Obligations.ChannelSettings : Prop :=
  (∀ (s : State) (tag v r : Nat), s.Open tag → r = (if v = 0 then 1 else if 4 < v then 4 else v) →
    ∃ dc : DriveChannels, exec (.setShare tag v) s = .next (State.reply tag .ok (.share r) { s with dc := dc }) ∧
      dc.share = r ∧
      ∀ c : Chan, dc.channels.get c =
        if s.dc.share < r ∧ (s.channel c).state = .ready then (s.channel c).arbitrate r 4 else s.channel c) ∧
  ∀ (s : State) (tag ms auto : Nat), s.Open tag →
    (∀ c : Chan, ∃ v, (auto = 0 → v = false) ∧ (auto = 1 → v = true) ∧
      exec (.setChannel tag c.val ms auto) s = .next (State.reply tag .ok (.timeout (max 500 (min 60000 ms)))
        { s with
          dc := { s.dc with
            channels := s.dc.channels.set c { s.channel c with timeout := max 500 (min 60000 ms) } }
          eba := { s.eba with
            banks := s.eba.banks.set (channelBank c) { s.eba.banks.get (channelBank c) with autoFail := v } } })) ∧
    ∀ c, 11 < c → exec (.setChannel tag c ms auto) s = .next (s.reply tag .badValue .empty)

/-- The arbiter leaves a slot free only when nothing can be issued into it; each of its choices takes the head of
the rebuild queue while fewer than R rebuild-owned commands are outstanding, and else the head of the foreground
queue (R50). A command that is sent takes a drive-link tag that no outstanding command carries (R48). -/
def Obligations.ArbiterFillsSlotsWithFreshTags : Prop :=
  (∀ (ch ch' : Channel) (share : Nat), ch' = ch.arbitrate share 4 →
    ch'.freeSlot = none ∨ (ch'.foreground = [] ∧ (ch'.rebuild = [] ∨ share ≤ ch'.rebuildOut))) ∧
  (∀ (ch ch' : Channel) (share : Nat), ch.arbitrateOnce share = some ch' → ∃ i, ch.freeSlot = some i ∧
    ((∃ q rest, ch.rebuild = q :: rest ∧ ch.rebuildOut < share ∧
        ch' = Channel.issue { ch with rebuild := rest } i q) ∨
      ∃ q rest, ch.foreground = q :: rest ∧ (ch.rebuild = [] ∨ share ≤ ch.rebuildOut) ∧
        ch' = Channel.issue { ch with foreground := rest } i q)) ∧
  ∀ (ch : Channel) (i : Fin 4) (ms : Nat) (work : SlotWork), ch.slots.get i = none →
    ∃ tag, tag ∉ ch.tagsOut ∧ (ch.send i ms work).slots = ch.slots.set i
      (some { tag := tag, allowance := ms, work := work }) ∧
      (ch.tagCounter ∉ ch.tagsOut → tag = ch.tagCounter) ∧ (ch.send i ms work).tagCounter = (tag + 1) % 65536

/-- An insertion starts a probe of an EMPTY channel, and the probe ends GOOD with the capacity, or in error or by
its allowance with PROBE-FAIL; each latches CHANNEL-CHANGE (R43, R44). That the CAPACITY command takes slot 0 is the
model's choice (log 29). -/
def Obligations.ProbesBeginAndEnd : Prop :=
  ∀ (s : State) (c : Chan),
    ((s.channel c).state = .empty → exec (.insertion c.val) s = .next (State.latch .channelChange
      (s.putChannel c ((s.channel c).Probing true)))) ∧
    ((s.channel c).state = .probing → s.agenda = [] →
      (∀ tag i slot n bs, (s.channel c).findTag tag = some (i, slot) → slot.work = .probe →
        exec (.capacityCompletion c.val tag { result := .good, number := n, blocks := bs }) s =
          .next (State.latch .channelChange (s.putChannel c
            { (s.channel c).Emptied with
              state := .ready, presence := (s.channel c).presence, capacity := some n }))) ∧
      ∀ t, t = State.settle (State.latch .channelChange (State.takeError (channelBank c)
          { code := .probeFail, uncorrected := false, block := none, count := 0, kind := some .capacity,
            owner := none }
          (s.putChannel c { (s.channel c).Offline with capacity := none }))) →
        exec (.probeAllowanceExpiry c.val) s = .next t ∧
        ∀ tag i slot r, (s.channel c).findTag tag = some (i, slot) → slot.work = .probe → r.result ≠ .good →
          exec (.capacityCompletion c.val tag r) s = .next t)

/-- A removal empties a channel off the array, cancels the assignment of a spare with cause SPARE-LOST, and fails the
position of a member with cause REMOVED (R31, R38, R45). RESET-CHANNEL probes the drive of an OFFLINE or READY
channel that is no member, cancels the assignment of a spare, and is refused on a member, an EMPTY and a PROBING
channel and on a number above 11 (R38, R47). The commands that such a channel still holds for an owner end as failed
behind it, which is the model's choice (log 23), and so is it that the CAPACITY command of the probe takes slot 0 (log
29). -/
def Obligations.DrivesRemovedAndReset : Prop :=
  (∀ (s : State) (c : Chan), (s.channel c).state ≠ .empty → s.agenda = [] →
    (s.table.memberOf c = none → s.table.spareOf c = none →
      exec (.removal c.val) s = .next (State.settle (State.laterAll ((s.channel c).endings c)
        (State.latch .channelChange (s.putChannel c (s.channel c).Emptied))))) ∧
    (∀ x p, s.table.memberOf c = none → s.table.spareOf c = some x → s.table.position x = some p →
      ∃ u, u = State.latch .channelChange (s.putChannel c (s.channel c).Emptied) ∧
        exec (.removal c.val) s = .next (State.settle (State.laterAll ((s.channel c).endings c) { u with
          table := s.table.setPosition x { p with spare := none, cause := some .spareLost } }))) ∧
    (∀ x, s.table.memberOf c = some x →
      exec (.removal c.val) s = .next (State.settle (State.later (.failChannel c .removed)
        (State.latch .channelChange (s.putChannel c { s.channel c with presence := false })))))) ∧
  ∀ (s : State) (tag : Nat), s.Open tag → s.agenda = [] →
    (∀ c : Chan,
      (s.table.memberOf c = none → (s.channel c).state = .offline ∨ (s.channel c).state = .ready →
        (s.table.spareOf c = none →
          exec (.resetChannel tag c.val) s = .next (State.settle (State.laterAll ((s.channel c).endings c)
            (State.reply tag .ok .empty (State.latch .channelChange
              (s.putChannel c ((s.channel c).Probing (s.channel c).presence))))))) ∧
        ∀ x p, s.table.spareOf c = some x → s.table.position x = some p →
          exec (.resetChannel tag c.val) s = .next (State.settle (State.laterAll ((s.channel c).endings c)
            (State.reply tag .ok .empty (State.latch .channelChange (State.putChannel c
              ((s.channel c).Probing (s.channel c).presence)
              { s with table := s.table.setPosition x { p with spare := none, cause := some .spareLost } })))))) ∧
      (s.table.memberOf c = none → (s.channel c).state = .empty →
        exec (.resetChannel tag c.val) s = .next (s.reply tag .channelNotReady .empty)) ∧
      (s.table.memberOf c = none → (s.channel c).state = .probing →
        exec (.resetChannel tag c.val) s = .next (s.reply tag .busy .empty)) ∧
      ((s.table.memberOf c).isSome = true →
        exec (.resetChannel tag c.val) s = .next (s.reply tag .channelInUse .empty))) ∧
    ∀ c, 11 < c → exec (.resetChannel tag c) s = .next (s.reply tag .badValue .empty)

/-- A completion at an EMPTY or OFFLINE channel is discarded whole; one that matches no outstanding command of a
READY or PROBING channel is logged as UNMATCHED-COMPLETION and does nothing else (R46, R52). The ends of the orphans
of a restart (R61): a READ that completes, however, or expires frees its slot and does nothing else; a WRITE that
completes GOOD passes through the update of the buffer store, under the position that its channel holds then (the model's
reading, log 26), and frees its slot; one that ends MEDIUM, DEVICE or TIMEOUT is logged without owner and fails the
position of a member, and none else. A MEDIUM with a first bad block outside the command's range is logged MEDIUM-WRITE
too, as the model reads R56 (log 22). When the freed slot is filled is the model's order (log 4); the order of a demand
that the same error raises is free (log 3), and is left out here. -/
def Obligations.StraysAndOrphansEnd : Prop :=
  (∀ (s : State) (c : Chan) (tag : Nat) (r : Completion), s.agenda = [] →
    ((s.channel c).state = .empty ∨ (s.channel c).state = .offline →
      exec (.completionDiscarded c.val tag r) s = .next s ∧ exec (.readCompletion c.val tag r) s = .next s ∧
      exec (.writeCompletion c.val tag r) s = .next s ∧ exec (.capacityCompletion c.val tag r) s = .next s) ∧
    ((s.channel c).state = .ready ∨ (s.channel c).state = .probing → (s.channel c).findTag tag = none →
      exec (.unmatchedCompletion c.val tag r) s = .next (State.settle (s.takeError (channelBank c)
        { code := .unmatchedCompletion, uncorrected := false, block := none, count := 0, kind := none,
          owner := none })))) ∧
  ∀ (s : State) (c : Chan) (tag ms : Nat) (i : Fin 4) (cmd : DriveCmd), (s.channel c).state = .ready →
    s.agenda = [] → (s.channel c).findTag tag = some (i, { tag := tag, allowance := ms, work := .orphan cmd }) →
    (∀ notes r, cmd.op = .read notes →
      exec (.readCompletion c.val tag r) s = .next (s.freeSlot c i) ∧
      exec (.commandTimeout c.val tag) s = .next (s.freeSlot c i)) ∧
    ∀ (bs : List Block) (flags : List Bool) (r : Completion), cmd.op = .write bs flags →
      (r.result = .good →
        (s.table.memberOf c = none → exec (.writeCompletion c.val tag r) s = .next (s.freeSlot c i)) ∧
        ∀ x, s.table.memberOf c = some x → exec (.writeCompletion c.val tag r) s =
          .next (State.freeSlot c i (s.writeThrough none x cmd.first bs))) ∧
      ∀ (ended expired : State),
        ended = State.takeError (channelBank c)
          (if r.result = .medium then
            { code := .mediumWrite, uncorrected := true, block := some r.number, count := cmd.count,
              kind := some .write, owner := none }
          else
            { code := .device, uncorrected := true, block := some cmd.first, count := cmd.count,
              kind := some .write, owner := none })
          (s.putChannel c { s.channel c with slots := (s.channel c).slots.set i none }) →
        expired = State.takeError (channelBank c)
          { code := .timeout, uncorrected := true, block := some cmd.first, count := cmd.count,
            kind := some .write, owner := none } (s.freeSlot c i) →
        (s.table.memberOf c = none →
          (r.result ≠ .good → exec (.writeCompletion c.val tag r) s =
            .next (State.settle (State.later (.arbiter c) ended))) ∧
          exec (.commandTimeout c.val tag) s = .next (State.settle expired)) ∧
        ∀ x, s.table.memberOf c = some x →
          (s.eba.banks.get (channelBank c)).autoFail = false ∨
            (s.eba.banks.get (channelBank c)).counter ≠ 4094 →
          (r.result ≠ .good → exec (.writeCompletion c.val tag r) s =
            .next (State.settle (State.laterAll [.failChannel c .writeFailure, .arbiter c] ended))) ∧
          exec (.commandTimeout c.val tag) s =
            .next (State.settle (State.later (.failChannel c .writeFailure) expired))

/-- A READ that completes GOOD delivers its blocks and its outcome goes to its owner; one that completes MEDIUM
inside its range delivers the blocks before the bad one, which becomes an erasure and is logged, and the
remainder is reissued, or becomes erasures after eight reissues; one that completes DEVICE, or MEDIUM outside its
range, makes every block it asked for an erasure (R53, R54). That a demand which the error raises is judged before the
reissue or the outcome is the model's choice (log 30). -/
def Obligations.ReadsAnswered : Prop :=
  ∀ (s : State) (c : Chan) (tag ms next reissues : Nat) (i : Fin 4) (o : Owner) (cmd : DriveCmd)
    (outs : List BlockOutcome) (sh : List (Nat × Nat)) (notes : List RefetchNote) (r : Completion)
    (answered : Nat → List BlockOutcome → State),
    (s.channel c).state = .ready → s.agenda = [] → cmd.op = .read notes → next ≤ cmd.first + cmd.count →
    (s.channel c).findTag tag =
      some (i, { tag := tag, allowance := ms, work := .owned o cmd next outs reissues sh }) →
    (∀ next' outs', answered next' outs' = s.putChannel c { s.channel c with
      slots := (s.channel c).slots.set i (some
        { tag := tag, allowance := ms, work := .owned o cmd next' outs' reissues sh }) }) →
    (r.result = .good → r.blocks.length = cmd.first + cmd.count - next →
      exec (.readCompletion c.val tag r) s = .next (State.settle (State.later (.reissue c i)
        (answered (cmd.first + cmd.count) (outs ++ r.blocks.map .good))))) ∧
    (r.result = .medium → next ≤ r.number → r.number < cmd.first + cmd.count →
      r.blocks.length = r.number - next →
      exec (.readCompletion c.val tag r) s = .next (State.settle (State.later (.reissue c i)
        (State.takeError (channelBank c)
          { code := .mediumRead, uncorrected := false, block := some r.number,
            count := cmd.first + cmd.count - next, kind := some .read, owner := some o.errorOwner }
          (if reissues = 8 then
            answered (cmd.first + cmd.count) (outs ++ r.blocks.map .good ++
              List.replicate (cmd.first + cmd.count - r.number) (.erased .medium))
          else answered (r.number + 1) (outs ++ r.blocks.map .good ++ [.erased .medium])))))) ∧
    (r.result = .device ∨ (r.result = .medium ∧ (r.number < next ∨ cmd.first + cmd.count ≤ r.number)) →
      exec (.readCompletion c.val tag r) s = .next (State.settle (State.later (.reissue c i)
        (State.takeError (channelBank c)
          { code := .device, uncorrected := false, block := some next,
            count := cmd.first + cmd.count - next, kind := some .read, owner := some o.errorOwner }
          (answered (cmd.first + cmd.count)
            (outs ++ List.replicate (cmd.first + cmd.count - next) (.erased .device)))))))

/-- A WRITE that completes GOOD updates the buffer store, hands its blocks for trimming, and frees its slot, which is
filled before the owner takes the end (R56, R71, R110; that order is the model's, log 4). The trims go by ascending
block, which is the model's choice (log 28), and a WRITE of a segment or job that is ending early is trimmed too, as the
model reads R151 (log 21). One that fails on a member
is logged and fails the position, whichever of MEDIUM and DEVICE it ends (R32, R56). A MEDIUM with a first bad block
outside the command's range is logged MEDIUM-WRITE too, as the model reads R56 (log 22). The order of a demand that the
same error raises is free (log 3), and is left out here. -/
def Obligations.WritesAnswered : Prop :=
  ∀ (s : State) (c : Chan) (tag ms next reissues x : Nat) (i : Fin 4) (o : Owner) (cmd : DriveCmd)
    (outs : List BlockOutcome) (sh : List (Nat × Nat)) (bs : List Block) (flags : List Bool) (r : Completion),
    (s.channel c).state = .ready → cmd.op = .write bs flags →
    (s.channel c).findTag tag =
      some (i, { tag := tag, allowance := ms, work := .owned o cmd next outs reissues sh }) →
    (r.result = .good → exec (.writeCompletion c.val tag r) s = .next (State.settle (State.later (.writeDone o)
      (State.freeSlot c i (State.trimRuns cmd.position (markedRuns cmd.first flags)
        (s.writeThrough (some o.errorOwner) cmd.position cmd.first bs)))))) ∧
    (r.result ≠ .good → s.table.memberOf c = some x →
      (s.eba.banks.get (channelBank c)).autoFail = false ∨ (s.eba.banks.get (channelBank c)).counter ≠ 4094 →
      exec (.writeCompletion c.val tag r) s = .next (State.settle (State.laterAll
        [.failChannel c .writeFailure, .writeDone o, .arbiter c]
        (State.takeError (channelBank c)
          (if r.result = .medium then
            { code := .mediumWrite, uncorrected := true, block := some r.number, count := cmd.count,
              kind := some .write, owner := some o.errorOwner }
          else
            { code := .device, uncorrected := true, block := some cmd.first, count := cmd.count,
              kind := some .write, owner := some o.errorOwner })
          (s.putChannel c { s.channel c with slots := (s.channel c).slots.set i none })))))

/-- A READ whose timer expires frees its slot, is logged, and ends with erasures of cause TIMEOUT behind what it
had (R55); a WRITE that expires on a member frees its slot, is logged and fails the position (R32, R55). That the freed
slot is filled before the owner takes the end is the model's order (log 4), and so is it that a demand which a READ's error
raises is judged before the outcome reaches the owner (log 30). A timer that is not running has no effect,
by the model's reading (log 18). The order of a demand that a WRITE's error raises is free (log 3), and is left out
here. -/
def Obligations.CommandTimesOut : Prop :=
  ∀ (s : State) (c : Chan) (tag : Nat), s.agenda = [] →
    (∀ (ms next reissues : Nat) (i : Fin 4) (o : Owner) (cmd : DriveCmd) (outs : List BlockOutcome)
      (sh : List (Nat × Nat)), (s.channel c).findTag tag =
        some (i, { tag := tag, allowance := ms, work := .owned o cmd next outs reissues sh }) →
      (∀ notes, cmd.op = .read notes →
        exec (.commandTimeout c.val tag) s = .next (State.settle (State.later
          (.readDone o cmd (some c)
            (outs ++ List.replicate (cmd.first + cmd.count - next) (.erased .timeout)) sh)
          (State.takeError (channelBank c)
            { code := .timeout, uncorrected := false, block := some next,
              count := cmd.first + cmd.count - next, kind := some .read, owner := some o.errorOwner }
            (s.freeSlot c i))))) ∧
      ∀ bs flags x, cmd.op = .write bs flags → s.table.memberOf c = some x →
        (s.eba.banks.get (channelBank c)).autoFail = false ∨
          (s.eba.banks.get (channelBank c)).counter ≠ 4094 →
        exec (.commandTimeout c.val tag) s = .next (State.settle (State.laterAll
          [.failChannel c .writeFailure, .writeDone o]
          (State.takeError (channelBank c)
            { code := .timeout, uncorrected := true, block := some cmd.first, count := cmd.count,
              kind := some .write, owner := some o.errorOwner }
            (s.freeSlot c i))))) ∧
    ((s.channel c).findTag tag = none → exec (.commandTimeout c.val tag) s = .next s)

/-- The units of work that an event sets off, and what each does (log 4 for their order). A reissue stays in its slot
under a fresh tag, with the timeout in force and one reissue more (R48, R53); a READ with no block left frees its slot
and hands its outcome. A failed channel fails the position that holds it (R31, R32). An outcome reaches its owner, the
good blocks of a segment's READ considered for filling first (R54); a segment or job that is ending early discards it
(R115, R139). A command handed joins the queue of the READY channel that holds its position, or ends failed at once
(R49). A grant to a write hands the GRANT of its segment (R101). A stopping pass ends once its jobs have (R142). A slot
that is freed is filled at once by the arbiter of a READY channel (R50). The trims of a WRITE are those of the longest
runs of its blocks that are handed for trimming (R110, R126), by ascending block (log 28). -/
def Obligations.WorkUnits : Prop :=
  (∀ (s : State) (t : Task) (ts : List Task) (n : Nat),
    s.settle = drain 1048576 s.agenda { s with agenda := [] } ∧ drain n [] s = s ∧
    drain (n + 1) (t :: ts) s = drain n ((runTask t s).agenda ++ ts) { runTask t s with agenda := [] } ∧
    drain 0 (t :: ts) s = { s with agenda := t :: ts }) ∧
  (∀ (s : State) (c : Chan) (i : Fin 4),
    (∀ (tag ms next reissues : Nat) (o : Owner) (cmd : DriveCmd) (outs : List BlockOutcome) (sh : List (Nat × Nat)),
      (s.channel c).slots.get i =
        some { tag := tag, allowance := ms, work := .owned o cmd next outs reissues sh } →
      (cmd.first + cmd.count ≤ next → runTask (.reissue c i) s =
        State.later (.readDone o cmd (some c) outs sh) (s.freeSlot c i)) ∧
      (next < cmd.first + cmd.count → ∃ fresh, runTask (.reissue c i) s = s.putChannel c { s.channel c with
          slots := (s.channel c).slots.set i (some { tag := fresh, allowance := (s.channel c).timeout
                                                     work := .owned o cmd next outs (reissues + 1) sh })
          tagCounter := (fresh + 1) % 65536 } ∧
        (∀ j slot, j ≠ i → (s.channel c).slots.get j = some slot → slot.tag ≠ fresh) ∧
        ((∀ j slot, j ≠ i → (s.channel c).slots.get j = some slot → slot.tag ≠ (s.channel c).tagCounter) →
          fresh = (s.channel c).tagCounter))) ∧
    ((s.channel c).slots.get i = none → runTask (.reissue c i) s = s)) ∧
  (∀ (s : State) (c : Chan) (cause : FailCause),
    (s.table.memberOf c = none → runTask (.failChannel c cause) s = s) ∧
    ∀ x p, s.table.memberOf c = some x → s.table.position x = some p →
      runTask (.failChannel c cause) s = s.failPosition x p cause) ∧
  (∀ (s u : State) (tag : Nat) (r : ExtentReq) (g : Geometry) (cmd : DriveCmd) (performed : Option Chan)
    (outs : List BlockOutcome) (sh : List (Nat × Nat)) (notes : List RefetchNote), s.request tag = some r →
    s.geom = some g → cmd.op = .read notes →
    (∀ c, performed = some c → u = s.fillAll c cmd.position notes sh cmd.first outs) →
    (performed = none → u = s) →
    runTask (.readDone (.segment tag) cmd performed outs sh) s = State.later (.segment tag) (u.putRequest { r with
      outstanding := r.outstanding - 1
      work := { r.work with
        cells := if r.endPending = some .arrayFailed then r.work.cells else
          r.work.cells ++ (List.range outs.length).zipWith
            (fun n e => { position := cmd.position, row := g.memberRow cmd.first + n, outcome := e }) outs } }) ∧
    runTask (.writeDone (.segment tag)) s =
      State.later (.segment tag) (s.putRequest { r with outstanding := r.outstanding - 1 })) ∧
  (∀ (s : State) (k : Nat) (j : Job) (g : Geometry) (cmd : DriveCmd) (performed : Option Chan)
    (outs : List BlockOutcome) (sh : List (Nat × Nat)), s.jobOf k = some j → s.geom = some g →
    runTask (.readDone (.job k) cmd performed outs sh) s = State.later (.job k) (s.putJob { j with
      outstanding := j.outstanding - 1
      cells := if j.cutShort = true then j.cells else
        j.cells ++ (List.range outs.length).zipWith
          (fun n e => { position := cmd.position, row := g.memberRow cmd.first + n, outcome := e }) outs }) ∧
    runTask (.writeDone (.job k)) s =
      State.later (.job k) (s.putJob { j with outstanding := j.outstanding - 1 })) ∧
  (∀ (s : State) (o : Owner) (cmd : DriveCmd) (ended : Task),
    (∀ notes, cmd.op = .read notes →
      ended = .readDone o cmd none (List.replicate cmd.count (.erased .positionFailed)) []) →
    (∀ bs flags, cmd.op = .write bs flags → ended = .writeDone o) →
    ((∀ p c, s.table.position cmd.position = some p → p.channel = some c → (s.channel c).state ≠ .ready) →
      runTask (.hand o cmd) s = s.later ended) ∧
    ∀ p c, s.table.position cmd.position = some p → p.channel = some c → (s.channel c).state = .ready →
      (∀ tag, o = .segment tag → runTask (.hand o cmd) s = s.putChannel c (Channel.arbitrate s.dc.share 4
        { s.channel c with foreground := (s.channel c).foreground ++ [{ owner := o, cmd := cmd }] })) ∧
      ∀ k, o = .job k → runTask (.hand o cmd) s = s.putChannel c (Channel.arbitrate s.dc.share 4
        { s.channel c with rebuild := (s.channel c).rebuild ++ [{ owner := o, cmd := cmd }] })) ∧
  (∀ (s : State) (tag : Nat) (r : ExtentReq) (g : Geometry) (first count : Nat), s.request tag = some r →
    r.tag = tag → s.geom = some g → 0 < g.stripeBlocks → r.kind = .write →
    first = max r.first ((g.stripeOf r.first + r.segment) * g.stripeBlocks) →
    count = min (r.first + r.count) ((g.stripeOf r.first + r.segment + 1) * g.stripeBlocks) - first →
    (r.state = .lockWait → runTask (.granted (.extent tag)) s = State.handFrame
      (.grant tag first count (first - r.first))
      (s.putRequest { r with
        state := .dataWait
        work := { cells := [], rebuilding := [], round := 1, erasures := [], grant := some (first - r.first, count)
                  received := [], dataTimer := true, method := none, writeSet := [] } })) ∧
    (r.state ≠ .lockWait → runTask (.granted (.extent tag)) s = s)) ∧
  (∀ (s : State) (tag k : Nat) (c : Chan) (f : Frame), runTask (.frame f) s = s.handFrame f ∧
    runTask (.demand c) s = s.demand c ∧ runTask (.granted (.extent tag)) s = s.grantRequest tag ∧
    runTask (.granted (.job k)) s = s.grantJob k ∧ runTask (.segment tag) s = s.advanceRequest tag ∧
    runTask (.nextSegment tag) s = s.nextSegment tag ∧ runTask (.job k) s = s.advanceJob k ∧
    runTask .frontier s = s.advanceFrontier ∧ runTask .startJobs s = s.startJobs ∧
    ((s.channel c).state = .ready →
      runTask (.arbiter c) s = s.putChannel c ((s.channel c).arbitrate s.dc.share 4)) ∧
    ((s.channel c).state ≠ .ready → runTask (.arbiter c) s = s)) ∧
  (∀ (s u : State) (c : Chan) (i : Fin 4),
    u = s.putChannel c { s.channel c with slots := (s.channel c).slots.set i none } →
    ((s.channel c).state = .ready →
      s.freeSlot c i = u.putChannel c ((u.channel c).arbitrate s.dc.share 4)) ∧
    ((s.channel c).state ≠ .ready → s.freeSlot c i = u)) ∧
  (∀ (first : Nat) (flags : List Bool) (runs : List (Nat × Nat)), runs = markedRuns first flags →
    runs.Pairwise (fun a b => a.1 + a.2 < b.1) ∧ (∀ run ∈ runs, 0 < run.2) ∧
    (∀ m, (∃ run ∈ runs, run.1 ≤ m ∧ m < run.1 + run.2) ↔ first ≤ m ∧ flags[m - first]? = some true) ∧
    ∀ (s : State) (x : Nat) (u : Nat → State), u 0 = s →
      (∀ i run, runs[i]? = some run → u (i + 1) = (u i).trim x run.1 run.2) → s.trimRuns x runs = u runs.length) ∧
  ∀ s : State,
    (∀ cause, s.rbc.state = .stopping → s.rbc.stopCause = some cause →
      (∀ j ∈ s.rbc.window, j.state = .complete ∨ j.state = .failed) → runTask .drained s = s.endPass cause) ∧
    (s.rbc.state ≠ .stopping ∨ (∃ j ∈ s.rbc.window, j.state ≠ .complete ∧ j.state ≠ .failed) →
      runTask .drained s = s)

/-! ## Column Buffer Store (spec/04) -/

/-- What a lookup makes of the lines of its set (R65 to R67, R76). A compared way that holds the block with good parities
gives a hit and sets the replacement bit to the other way; without one, a way whose data fails its parity gives a miss
with a refetch note for it, else a way whose tag fails its parity does, way 0 before way 1, else the lookup misses. A line
that fails a parity is invalidated and its error handed to bank 12 (that way 0's comes first is the model's order, log
27); a force-miss way takes no part, and nothing else changes. So a block placed in a way that is in use is found by the
next lookup of it (R62, R69); under the inject flag the placement clears the flag and plants an error, so that the lookup
misses with a refetch note for the way and the line is gone (R67, R74). The parity functions are log 10's. -/
def Obligations.LookupsJudged : Prop :=
  (∀ (s t : State) (o : Owner) (x m : Nat) (result : LookupEnd), s.lookup o x m = (t, result) →
    ((∀ b, s.cbs.Holds x m .way0 b → result = .hit b) ∧
      ((∀ b, ¬s.cbs.Holds x m .way0 b) → ∀ b, s.cbs.Holds x m .way1 b → result = .hit b) ∧
      ((∀ w b, ¬s.cbs.Holds x m w b) →
        (s.cbs.BadData x m .way0 → result = .miss (some .way0)) ∧
        (¬s.cbs.BadData x m .way0 → s.cbs.BadData x m .way1 → result = .miss (some .way1)) ∧
        ((∀ w, ¬s.cbs.BadData x m w) →
          (s.cbs.BadTag x m .way0 → result = .miss (some .way0)) ∧
          (¬s.cbs.BadTag x m .way0 → s.cbs.BadTag x m .way1 → result = .miss (some .way1)) ∧
          ((∀ w, ¬s.cbs.BadTag x m w) → result = .miss none)))) ∧
    (∀ j, j ≠ setOf x m → t.cbs.sets.get j = s.cbs.sets.get j) ∧ (∀ w, t.cbs.mode w = s.cbs.mode w) ∧
    (∀ w, (s.cbs.BadData x m w ∨ s.cbs.BadTag x m w → (t.cbs.sets.get (setOf x m)).line w = none) ∧
      (¬s.cbs.BadData x m w → ¬s.cbs.BadTag x m w →
        (t.cbs.sets.get (setOf x m)).line w = (s.cbs.sets.get (setOf x m)).line w)) ∧
    ((∃ b, s.cbs.Holds x m .way0 b) → (t.cbs.sets.get (setOf x m)).replace = .way1) ∧
    ((∀ b, ¬s.cbs.Holds x m .way0 b) → (∃ b, s.cbs.Holds x m .way1 b) →
      (t.cbs.sets.get (setOf x m)).replace = .way0) ∧
    ((∀ w b, ¬s.cbs.Holds x m w b) →
      (t.cbs.sets.get (setOf x m)).replace = (s.cbs.sets.get (setOf x m)).replace) ∧
    ∀ logged : Way → State → State,
      (∀ w u, s.cbs.BadData x m w → logged w u = u.takeError 12
        { code := .dataParity, uncorrected := false, block := some m, count := 1, kind := some .lookup,
          owner := some o.errorOwner }) →
      (∀ w u, s.cbs.BadTag x m w → logged w u = u.takeError 12
        { code := .tagParity, uncorrected := false, block := some m, count := 1, kind := some .lookup,
          owner := some o.errorOwner }) →
      (∀ w u, ¬s.cbs.BadData x m w → ¬s.cbs.BadTag x m w → logged w u = u) →
      t = { logged .way1 (logged .way0 s) with cbs := t.cbs }) ∧
  ∀ (s t : State) (o : Owner) (x m : Nat) (b : Block) (w : Way), (s.cbs.mode w).forceMiss = false →
    (∀ l, (s.cbs.sets.get (setOf x m)).line w.other = some l → l.carries x m = false) → t = s.place x m b w →
    ((s.cbs.mode w).inject = false → (t.lookup o x m).2 = .hit b) ∧
    ((s.cbs.mode w).inject = true → (t.cbs.mode w).inject = false ∧ (t.lookup o x m).2 = .miss (some w) ∧
      ((t.lookup o x m).1.cbs.sets.get (setOf x m)).line w = none)

/-- A block that a channel delivered for a segment is placed only while its position is available for the block's
stripe and no orphan WRITE shadows it, and, without a refetch note, only while the position stands on that channel
(R64, R68, R69). It goes into the line that carries it already; else, with a refetch note, into the noted way if that
is a candidate (R68), and without one into the one candidate, an invalid one before a valid one and way 0 before way
1, or the one that the replacement bit names (R69, R70). The blocks of an outcome are considered in ascending order,
erasures passed over. A stored WRITE replaces the contents of the lines that carry its blocks, with fresh parity,
invalidates those it compares whose tag parity fails, each logged TAG-PARITY in bank 12 with the block and the WRITE's
owner (R66, R76), and changes no other line, replacement bit or mode flag (R71). A placement leaves in its way a line of
the block with fresh parities, its data parity inverted under the inject flag, which it clears, and the replacement bit
names the other way; no other line, set or flag changes (R62, R63, R70, R74). The parity functions are log 10's. -/
def Obligations.FillsAndUpdates : Prop :=
  (∀ (s t : State) (x m : Nat) (b : Block) (w w' : Way) (i : Fin 256), w' ≠ w → t = s.place x m b w → i = setOf x m →
    i.val = (m + 37 * x) % 256 ∧ t = { s with cbs := t.cbs } ∧
    (t.cbs.sets.get i).line w = some
      { position := x, block := m, tagParity := tagParityOf x m, contents := b
        dataParity := if (s.cbs.mode w).inject = true then Block.parity b ^^^ Block.fill 1 else Block.parity b } ∧
    (t.cbs.sets.get i).line w' = (s.cbs.sets.get i).line w' ∧ (t.cbs.sets.get i).replace = w' ∧
    (∀ j, j ≠ i → t.cbs.sets.get j = s.cbs.sets.get j) ∧
    t.cbs.mode w = { s.cbs.mode w with inject := false } ∧ t.cbs.mode w' = s.cbs.mode w') ∧
  (∀ (s : State) (owner : Option ErrorOwner) (x first : Nat) (bs : List Block)
    (changed : Nat → Way → Option Line → State → State) (updated : Nat → Block → Way → State → State),
    (∀ m w l u, ∃ set, set.line w = l ∧ (∀ w', w' ≠ w → set.line w' = (u.cbs.sets.get (setOf x m)).line w') ∧
      set.replace = (u.cbs.sets.get (setOf x m)).replace ∧
      changed m w l u = { u with cbs := { u.cbs with sets := u.cbs.sets.set (setOf x m) set } }) →
    (∀ m b w u,
      ((u.cbs.mode w).forceMiss = true ∨ (u.cbs.sets.get (setOf x m)).line w = none → updated m b w u = u) ∧
      ∀ l, (u.cbs.mode w).forceMiss = false → (u.cbs.sets.get (setOf x m)).line w = some l →
        (l.tagParity ≠ tagParityOf l.position l.block → updated m b w u = State.takeError 12
          { code := .tagParity, uncorrected := false, block := some m, count := 1, kind := some .write, owner := owner }
          (changed m w none u)) ∧
        (l.tagParity = tagParityOf l.position l.block → ¬(l.position = x ∧ l.block = m) → updated m b w u = u) ∧
        (l.tagParity = tagParityOf l.position l.block → l.position = x → l.block = m →
          updated m b w u = changed m w (some { l with contents := b, dataParity := Block.parity b }) u)) →
    s.writeThrough owner x first bs = ((List.range bs.length).zip bs).foldl
      (fun u e => updated (first + e.1) e.2 .way1 (updated (first + e.1) e.2 .way0 u)) s) ∧
  (∀ (s : State) (c : Chan) (x m : Nat) (b : Block) (note : Option Way) (shadow : List (Nat × Nat))
    (placeable : Prop) (candidate carrying : Way → Prop),
    (placeable ↔ (∃ d p, s.table.definition = some d ∧ s.table.position x = some p ∧
      (note = none → p.channel = some c) ∧ s.available x (d.geom.memberStripe m) = true) ∧
      ∀ r ∈ shadow, ¬(r.1 ≤ m ∧ m < r.1 + r.2)) →
    (∀ w, candidate w ↔ (s.cbs.mode w).forceMiss = false ∧ (s.cbs.mode w.other).forceReplace = false) →
    (∀ w, carrying w ↔ (s.cbs.mode w).forceMiss = false ∧
      ∃ l, (s.cbs.sets.get (setOf x m)).line w = some l ∧ l.position = x ∧ l.block = m) →
    (¬placeable → s.fillBlock c x m b note shadow = s) ∧
    (note = none → (∀ w, ¬candidate w) → s.fillBlock c x m b note shadow = s) ∧
    (placeable →
      (∀ w, carrying w → (w = .way1 → ¬carrying .way0) → (note = none → ∃ w', candidate w') →
        s.fillBlock c x m b note shadow = s.place x m b w) ∧
      ((∀ w, ¬carrying w) →
        (∀ w, note = some w → candidate w → s.fillBlock c x m b note shadow = s.place x m b w) ∧
        (∀ w, note = some w → ¬candidate w → s.fillBlock c x m b note shadow = s) ∧
        (note = none →
          (∀ w, candidate w → ¬candidate w.other → s.fillBlock c x m b note shadow = s.place x m b w) ∧
          (candidate .way0 → candidate .way1 → s.fillBlock c x m b note shadow = s.place x m b
            (if (s.cbs.sets.get (setOf x m)).line0 = none then .way0
              else if (s.cbs.sets.get (setOf x m)).line1 = none then .way1
              else (s.cbs.sets.get (setOf x m)).replace)))))) ∧
  (∀ (s : State) (c : Chan) (x m : Nat) (notes : List RefetchNote) (shadow : List (Nat × Nat))
    (outs : List BlockOutcome) (u : Nat → State), u 0 = s →
    (∀ i < outs.length,
      (∀ b, outs[i]? = some (.good b) → u (i + 1) = (u i).fillBlock c x (m + i) b
        ((notes.find? fun n => n.block == m + i).map fun n => n.way) shadow) ∧
      ∀ cause, outs[i]? = some (.erased cause) → u (i + 1) = u i) →
    s.fillAll c x notes shadow m outs = u outs.length) ∧
  ∀ (s t : State) (owner : Option ErrorOwner) (x first : Nat) (bs : List Block), bs.length ≤ 256 →
    t = s.writeThrough owner x first bs →
    t = { s with ali := t.ali, cbs := t.cbs, eba := t.eba } ∧ (∀ w, t.cbs.mode w = s.cbs.mode w) ∧
    (∀ i, (t.cbs.sets.get i).replace = (s.cbs.sets.get i).replace) ∧
    (∀ i w, (s.cbs.mode w).forceMiss = true ∨ (∀ j < bs.length, setOf x (first + j) ≠ i) ∨
      (s.cbs.sets.get i).line w = none → (t.cbs.sets.get i).line w = (s.cbs.sets.get i).line w) ∧
    ∀ j b w l, bs[j]? = some b → (s.cbs.mode w).forceMiss = false →
      (s.cbs.sets.get (setOf x (first + j))).line w = some l →
      (t.cbs.sets.get (setOf x (first + j))).line w =
        if l.tagParity ≠ tagParityOf l.position l.block then none
        else if l.position = x ∧ l.block = first + j then
          some { l with contents := b, dataParity := Block.parity b }
        else some l

/-- Every line of the buffer store names a position that is available for the line's stripe (R64), and the pass record
keeps what that rests on: the window holds the jobs from F to N - 1 in order, and an IDLE pass has neither targets nor
jobs (R117, R120, R121, R127). Every step keeps both. -/
def Obligations.BufferedLinesStayAvailable : Prop :=
  ∀ s t : State, s.BufferSound → step s = .next t → t.BufferSound

/-- CACHE-MODE sets the six flags and invalidates the ways whose force-miss passes from clear to set; a flag
value above 1 or force-replacement on both ways is refused (R73, R75). That the reply carries the flags as just set,
an inject flag that a placement had cleared before included, is the model's choice (log 31). -/
def Obligations.CacheModeSet : Prop :=
  ∀ (s : State) (tag a b c d e f : Nat), s.Open tag →
    (a ≤ 1 ∧ b ≤ 1 ∧ c ≤ 1 ∧ d ≤ 1 ∧ e ≤ 1 ∧ f ≤ 1 ∧ ¬(c = 1 ∧ d = 1) →
      ∃ cbs : BufferStore, exec (.cacheMode tag a b c d e f) s = .next (State.reply tag .ok
          (.cache cbs.mode0 cbs.mode1 (cbs.validLines .way0) (cbs.validLines .way1)) { s with cbs := cbs }) ∧
        cbs.mode0 = { forceMiss := decide (a = 1), forceReplace := decide (c = 1), inject := decide (e = 1) } ∧
        cbs.mode1 = { forceMiss := decide (b = 1), forceReplace := decide (d = 1), inject := decide (f = 1) } ∧
        ∀ i, (cbs.sets.get i).replace = (s.cbs.sets.get i).replace ∧
          (cbs.sets.get i).line0 =
            (if a = 1 ∧ s.cbs.mode0.forceMiss = false then none else (s.cbs.sets.get i).line0) ∧
          (cbs.sets.get i).line1 =
            (if b = 1 ∧ s.cbs.mode1.forceMiss = false then none else (s.cbs.sets.get i).line1)) ∧
    (1 < a ∨ 1 < b ∨ 1 < c ∨ 1 < d ∨ 1 < e ∨ 1 < f ∨ (c = 1 ∧ d = 1) →
      exec (.cacheMode tag a b c d e f) s = .next (s.reply tag .badValue .empty))

/-! ## Lost Extent List (spec/08) -/

/-- An addition (R148 to R150). Its pieces, the longest runs of its blocks that are not listed, are placed in ascending
order, each joined to its neighbours where they have its cause and fit; the addition is taken exactly when what they leave
has at most Lm entries, and latches LIST-NEAR-FULL where it has Lm - 8 or more, one that adds nothing included; a refused
one changes nothing. One that is taken lists the blocks of its run and no others. A trim (R151) removes each entry of its
position that its run covers, shortens one that it covers at one end, and splits one that it lies strictly inside, or
keeps that whole where the list is at its limit; with room it removes the blocks of its run from the list and no others.
A trim joins no entries (log 28). -/
def Obligations.ListedBlocksAddedAndTrimmed : Prop :=
  (∀ (s t : State) (x first n : Nat) (cause : LostCause) (taken : Bool), s.lel.Sound → 1 ≤ n → n ≤ 65535 →
    s.addLost x first n cause = (taken, t) →
    (taken = true → ∀ y m, t.lel.listed y m =
      (s.lel.listed y m || (y == x && decide (first ≤ m) && decide (m < first + n)))) ∧
    (taken = false → t = s) ∧
    ∃ (pieces : List (Nat × Nat)) (left : Nat → List LostEntry),
      pieces.Pairwise (fun a b => a.1 + a.2 < b.1) ∧ (∀ p ∈ pieces, 0 < p.2) ∧
      (∀ m, (∃ p ∈ pieces, p.1 ≤ m ∧ m < p.1 + p.2) ↔ first ≤ m ∧ m < first + n ∧ s.lel.listed x m = false) ∧
      left 0 = s.lel.entries ∧
      (∀ i p, pieces[i]? = some p →
        LostEntry.PlacedIn { position := x, first := p.1, count := p.2, cause := cause } (left i) (left (i + 1))) ∧
      (taken = true ↔ (left pieces.length).length ≤ s.lel.limit) ∧
      (taken = true → ∀ u, u = { s with lel := { s.lel with entries := left pieces.length } } →
        t = if s.lel.limit ≤ (left pieces.length).length + 8 then u.latch .listNearFull else u)) ∧
  (∀ (s : State) (x first n : Nat) (left : LostEntry → List LostEntry), 1 ≤ n →
    (∀ e, (e.position ≠ x ∨ e.first + e.count ≤ first ∨ first + n ≤ e.first → left e = [e]) ∧
      (e.position = x → first < e.first + e.count → e.first < first + n →
        (first ≤ e.first → e.first + e.count ≤ first + n → left e = []) ∧
        (first ≤ e.first → first + n < e.first + e.count →
          left e = [{ e with first := first + n, count := e.first + e.count - (first + n) }]) ∧
        (e.first < first → e.first + e.count ≤ first + n → left e = [{ e with count := first - e.first }]) ∧
        (e.first < first → first + n < e.first + e.count →
          left e = if s.lel.entries.length < s.lel.limit then
            [{ e with count := first - e.first },
             { e with first := first + n, count := e.first + e.count - (first + n) }]
          else [e]))) →
    s.trim x first n = { s with lel := { s.lel with entries := s.lel.entries.flatMap left } }) ∧
  ∀ (s t : State) (x first n : Nat), s.lel.Sound → s.lel.entries.length < s.lel.limit → t = s.trim x first n →
    ∀ y m, t.lel.listed y m =
      (s.lel.listed y m && !(y == x && decide (first ≤ m) && decide (m < first + n)))

/-- The count of the list never exceeds its limit, which never exceeds 256, and its entries are in ascending
(position, block) order and never overlap (R146): every step keeps it so. -/
def Obligations.LostListStaysSound : Prop :=
  ∀ s t : State, s.lel.Sound → step s = .next t → t.lel.Sound

/-- The Lost Extent List is sound after reset, where it is empty with limit 256 (R146, R157), and so are the buffer
store and the pass record (R64, R77, R144). -/
def Obligations.SoundAtReset : Prop :=
  State.reset.lel.Sound ∧ State.reset.lel.entries = [] ∧ State.reset.lel.limit = 256 ∧ State.reset.BufferSound

/-- LOAD-LOST adds its extents in order, up to the first that is refused, and its reply carries how many were taken
and the count of the list; a guarded DROP-LOST removes its range, and its reply carries the blocks removed and the
count (R153, R154). The refusals of both, in the order of their checks; each leaves all but the guard as it was. -/
def Obligations.LostExtentsLoadedAndDropped : Prop :=
  (∀ (s : State) (tag : Nat) (es : List LostExtent) (d : ArrayDef) (u : Nat → State) (n : Nat), s.Open tag →
    s.table.definition = some d → 1 ≤ es.length → es.length ≤ 64 →
    (∀ e ∈ es, e.position < d.geom.w ∧ 1 ≤ e.count ∧ e.count ≤ 65535 ∧ d.geom.b0 ≤ e.first ∧
      e.first + e.count ≤ d.geom.b0 + d.geom.s * d.geom.k) →
    n ≤ es.length → u 0 = s →
    (∀ i e, i < n → es[i]? = some e → (u i).addLost e.position e.first e.count .loaded = (true, u (i + 1))) →
    (n = es.length → exec (.loadLost tag es) s =
      .next ((u n).reply tag .ok (.loaded n (u n).lel.entries.length))) ∧
    ∀ e, es[n]? = some e → ((u n).addLost e.position e.first e.count .loaded).1 = false →
      exec (.loadLost tag es) s = .next ((u n).reply tag .listFull (.loaded n (u n).lel.entries.length))) ∧
  (∀ (s : State) (tag : Nat) (es : List LostExtent) (status : Status), s.Open tag →
    (s.table.definition = none ∧ status = .notDefined) ∨
    (∃ d, s.table.definition = some d ∧ ∃ bad : Prop,
      (bad ↔ es.length = 0 ∨ 64 < es.length ∨
        ∃ e ∈ es, d.geom.w ≤ e.position ∨ e.count = 0 ∨ 65535 < e.count) ∧
      ((bad ∧ status = .badValue) ∨
      (¬bad ∧ (∃ e ∈ es, e.first < d.geom.b0 ∨ d.geom.b0 + d.geom.s * d.geom.k < e.first + e.count) ∧
        status = .range))) →
    exec (.loadLost tag es) s = .next (s.reply tag status .empty)) ∧
  ∀ (s u : State) (tag x first n : Nat), s.GuardedBy tag 0x52 (some x) →
    u = { s with ali := { s.ali with guard := none } } →
    (s.table.definition = none → exec (.dropLost tag x first n) s = .next (u.reply tag .notDefined .empty)) ∧
    ∀ d, s.table.definition = some d →
      (d.geom.w ≤ x ∨ n = 0 → exec (.dropLost tag x first n) s = .next (u.reply tag .badValue .empty)) ∧
      (x < d.geom.w → 1 ≤ n →
        (first < d.geom.b0 ∨ d.geom.b0 + d.geom.s * d.geom.k < first + n →
          exec (.dropLost tag x first n) s = .next (u.reply tag .range .empty)) ∧
        (d.geom.b0 ≤ first → first + n ≤ d.geom.b0 + d.geom.s * d.geom.k → ∀ inside : Prop,
          (inside ↔ ∃ e ∈ s.lel.entries, e.position = x ∧ e.first < first ∧ first + n < e.first + e.count) →
          (inside → s.lel.entries.length = s.lel.limit →
            exec (.dropLost tag x first n) s = .next (u.reply tag .listFull .empty)) ∧
          (¬inside ∨ s.lel.entries.length ≠ s.lel.limit → ∀ t, t = u.trim x first n →
            exec (.dropLost tag x first n) s =
              .next (t.reply tag .ok (.dropped (s.lel.blocks - t.lel.blocks) t.lel.entries.length)))))

/-! ## Checkpoint Store (spec/09) -/

/-- What becomes of a record (R143, R162 to R164, R167). A record of the pass carries its number, the geometry, its
targets, F, E and the result. A READY store programs it into the next free slot, the one behind the highest that is not
BLANK; with none it begins an erase cycle with the record waiting, or, worn, drops it with the error WORN and is FAULTED.
A store at work keeps it in place of the record that waited; a FAULTED one drops it. The program of a slot: GOOD writes
the slot, and the store takes the record that waits, or is READY; an error, or 10 ms, leaves it TORN, is logged and
retried in the next free slot; behind slot 63 an erase cycle begins, for the newer record where one waits, and a worn
store drops the record; after a second error in a run the store is FAULTED and nothing waits. Where a restart has found
the program under way, the store goes on to its scan in place of READY or FAULTED (R172). That a slot left TORN holds
a partly programmed body and the marker FFH is the model's reading (log 9); the status of the erase cycle behind a failed
slot 63, and that a worn store then drops the waiting record unlogged, are its choices (log 24). -/
def Obligations.RecordsTakenAndProgrammed : Prop :=
  ∀ dropped begun : State → CheckpointRecord → State,
    (∀ s r, dropped s r = State.latch .storeFault { State.takeError 14
        { code := .worn, uncorrected := true, block := none, count := 0, kind := some .slotProgram,
          owner := some (.passNumber r.number) } s with
      cps := { s.cps with
        status := .worn, state := if s.cps.rescan = true then .scanning else .faulted, op := .none, rescan := false
        pendingRecord := none } }) →
    (∀ s r,
      (∀ j, s.cps.nextFree = some j → begun s r = { s with cps := { s.cps with
        status := .normal, state := .programming, op := .program j r } }) ∧
      (s.cps.nextFree = none → s.cps.wornFlag = false → begun s r = { s with cps := { s.cps with
        status := .normal, state := .erasing, op := .erase .retireCell none, pendingRecord := some r } }) ∧
      (s.cps.nextFree = none → s.cps.wornFlag = true → begun s r = dropped s r)) →
    (∀ (s : State) (r : CheckpointRecord),
      (s.cps.state = .ready → s.giveRecord r = begun s r) ∧
      (s.cps.state = .programming ∨ s.cps.state = .erasing →
        s.giveRecord r = { s with cps := { s.cps with pendingRecord := some r } }) ∧
      (s.cps.state = .faulted → s.giveRecord r = s) ∧
      (∀ g, s.geom = some g → s.handProgress = s.giveRecord
        { number := s.rbc.number, geom := g, targets := s.rbc.targets, f := s.rbc.f, e := s.rbc.e,
          result := .none }) ∧
      (s.cps.classification = .retired → s.cps.nextFree = none) ∧
      (s.cps.classification = .valid →
        ((∀ j, s.cps.slotMap.get j = .blank) → s.cps.nextFree = some 0) ∧
        ∀ j : Fin 64, s.cps.slotMap.get j ≠ .blank → (∀ k, j < k → s.cps.slotMap.get k = .blank) →
          s.cps.nextFree.map (fun k => k.val) = if j.val = 63 then none else some (j.val + 1))) ∧
    ∀ (s : State) (i : Fin 64) (r : CheckpointRecord), s.cps.op = .program i r → s.cps.state = .programming →
      (∀ c, c = { s.cps with
          nv := { s.cps.nv with slots := s.cps.nv.slots.set i { body := .record r, marker := 0x5A } }
          slotMap := s.cps.slotMap.set i .written, errorRun := 0, pendingRecord := none } →
        (s.cps.pendingRecord = none →
          exec (.slotProgramEnd i.val true) s = .next { s with cps := { c with
            state := if s.cps.rescan = true then .scanning else .ready, op := .none, rescan := false } }) ∧
        ∀ q, s.cps.pendingRecord = some q →
          exec (.slotProgramEnd i.val true) s = .next (begun { s with cps := c } q)) ∧
      (∀ (u : State) (lost : Bool),
        (lost = true ↔ s.cps.errorRun = 1 ∨ ((s.cps.torn i).nextFree = none ∧
          (s.cps.wornFlag = true ∨ s.cps.pendingRecord ≠ none))) →
        s.cps.torn i = { s.cps with
          nv := { s.cps.nv with slots := s.cps.nv.slots.set i { body := .partly, marker := 0xFF } }
          slotMap := s.cps.slotMap.set i .torn } ∧
        exec (.slotProgramTimeout i.val) s = exec (.slotProgramEnd i.val false) s ∧
        (u = State.takeError 14
            { code := .program, uncorrected := lost, block := some i.val, count := 0, kind := some .slotProgram,
              owner := some (.passNumber r.number) } { s with cps := s.cps.torn i } →
          (s.cps.errorRun = 0 →
            (∀ j, (s.cps.torn i).nextFree = some j →
              exec (.slotProgramEnd i.val false) s = .next { u with cps := { s.cps.torn i with
                status := .programError, errorRun := 1, op := .program j r } }) ∧
            ((s.cps.torn i).nextFree = none → s.cps.wornFlag = false → s.cps.pendingRecord = none →
              exec (.slotProgramEnd i.val false) s = .next { u with cps := { s.cps.torn i with
                status := .programError, errorRun := 1, pendingRecord := some r, state := .erasing
                op := .erase .retireCell none } }) ∧
            ((s.cps.torn i).nextFree = none → s.cps.wornFlag = false → s.cps.pendingRecord ≠ none →
              exec (.slotProgramEnd i.val false) s = .next { u with cps := { s.cps.torn i with
                status := .normal, errorRun := 1, state := .erasing, op := .erase .retireCell none } }) ∧
            ((s.cps.torn i).nextFree = none → s.cps.wornFlag = true →
              exec (.slotProgramEnd i.val false) s = .next (dropped { u with cps := { s.cps.torn i with
                status := .programError, errorRun := 1 } } r))) ∧
          (s.cps.errorRun = 1 →
            exec (.slotProgramEnd i.val false) s = .next (State.latch .storeFault { u with cps := { s.cps.torn i with
              status := .programError, errorRun := 2
              state := if s.cps.rescan = true then .scanning else .faulted, op := .none, rescan := false
              pendingRecord := none } })))) ∧
      ∀ k ok, k ≠ i.val → exec (.slotProgramEnd k ok) s = .next s

/-- ERASE-CHECKPOINTS begins an erase cycle of a READY or FAULTED store that is not worn, and is refused while an
operation is under way or the store is worn (R170). The steps of a cycle that end GOOD: the retire cell, the whole
area, the open cell; then the store is VALID and empty with the erase count raised, worn at 20000, a record that waits is
programmed into slot 0 in the same operation, else the store is READY (or scans, after a restart), and the request that
began the cycle is answered. A step that fails or times out is logged ERASE in bank 14 and leaves the store FAULTED, or
scanning after a restart, with nothing waiting, the erase count, the classification, the slots and the slot map as they
were, and STORE-FAULT is answered where a request began the cycle (R165 to R167, R170, R172). How the two cells then read
is the event's operand, held to what R166 and R172 allow, as the model reads them (log 9). -/
def Obligations.EraseCycle : Prop :=
  (∀ (s : State) (tag : Nat), s.GuardedBy tag 0x59 none →
    (s.cps.state = .ready ∨ s.cps.state = .faulted → s.cps.wornFlag = false →
      exec (.eraseCheckpoints tag) s = .next { s with
        ali := { s.ali with guard := none }
        cps := { s.cps with status := .normal, state := .erasing, op := .erase .retireCell (some tag) } }) ∧
    (s.cps.state = .programming ∨ s.cps.state = .erasing →
      exec (.eraseCheckpoints tag) s =
        .next (State.reply tag .busy .empty { s with ali := { s.ali with guard := none } })) ∧
    (s.cps.state = .ready ∨ s.cps.state = .faulted → s.cps.wornFlag = true →
      exec (.eraseCheckpoints tag) s =
        .next (State.reply tag .storeFault .empty { s with ali := { s.ali with guard := none } }))) ∧
  ∀ (s : State) (left : CellsLeft) (answers : Option Nat) (answered : State → State),
    (∀ tag, answers = some tag → ∀ u,
      answered u = State.reply tag .ok (.eraseCount (s.cps.nv.eraseCount + 1)) u) →
    (answers = none → ∀ u, answered u = u) →
    (s.cps.op = .erase .retireCell answers →
      exec (.retireCellProgrammed true left) s = .next { s with cps := { s.cps with
        nv := { s.cps.nv with retireCell := 0x00 }, op := .erase .area answers } } ∧
      exec (.retireCellProgrammed false left) s = exec (.eraseStepTimeout left) s) ∧
    (s.cps.op = .erase .area answers →
      exec (.eraseEnd true left) s = .next { s with cps := { s.cps with
        nv := { s.cps.nv with
          slots := Vec.replicate 64 { body := .erased, marker := 0xFF }, retireCell := 0xFF, openCell := 0xFF }
        slotMap := Vec.replicate 64 .blank, op := .erase .openCell answers } } ∧
      exec (.eraseEnd false left) s = exec (.eraseStepTimeout left) s) ∧
    (s.cps.op = .erase .openCell answers →
      (∀ c, c = { s.cps with
          nv := { s.cps.nv with openCell := 0xA5, eraseCount := s.cps.nv.eraseCount + 1 }
          wornFlag := s.cps.wornFlag || decide (s.cps.nv.eraseCount + 1 = 20000), classification := .valid
          slotMap := Vec.replicate 64 .blank, errorRun := 0, pendingRecord := none } →
        (s.cps.pendingRecord = none → exec (.openCellProgrammed true left) s = .next (answered { s with cps := { c with
          state := if s.cps.rescan = true then .scanning else .ready, op := .none, rescan := false } })) ∧
        ∀ q, s.cps.pendingRecord = some q → exec (.openCellProgrammed true left) s = .next (answered { s with
          cps := { c with state := .programming, op := .program 0 q } })) ∧
      exec (.openCellProgrammed false left) s = exec (.eraseStepTimeout left) s) ∧
    ∀ step, s.cps.op = .erase step answers →
      ∀ (retire opening : Byte) (c : CheckpointStore) (u v : State),
        (step = .retireCell → opening = s.cps.nv.openCell ∧
          retire = if s.cps.nv.retireCell = 0xFF then left.retire else s.cps.nv.retireCell) →
        (step = .area → retire = (if left.retire = 0xFF then 0xFF else 0x00) ∧
          opening = if left.retire = 0xFF then 0xFF else left.opening) →
        (step = .openCell → retire = s.cps.nv.retireCell ∧
          opening = if left.opening = 0xA5 then 0xFF else left.opening) →
        c = { s.cps with nv := { s.cps.nv with retireCell := retire, openCell := opening } } →
        u = State.takeError 14
          { code := .erase, uncorrected := true, block := none, count := 0, kind := some .eraseCycle, owner := none }
          { s with cps := c } →
        v = State.latch .storeFault { u with cps := { c with
          status := .eraseError, state := if s.cps.rescan = true then .scanning else .faulted
          op := .none, rescan := false, pendingRecord := none } } →
        (∀ tag, answers = some tag → exec (.eraseStepTimeout left) s = .next (v.reply tag .storeFault .empty)) ∧
        (answers = none → exec (.eraseStepTimeout left) s = .next v)

/-- SET-LOST-LIMIT holds its value to 16 to 256 and then to at least the count of the list, and changes no entry;
SET-INTERVAL holds its value to 1 to 65535 (R155, R171). -/
def Obligations.LimitAndIntervalHeld : Prop :=
  ∀ (s : State) (tag v : Nat), s.Open tag →
    exec (.setLostLimit tag v) s = .next (State.reply tag .ok
      (.lostLimit (max (max 16 (min 256 v)) s.lel.entries.length))
      { s with lel := { s.lel with limit := max (max 16 (min 256 v)) s.lel.entries.length } }) ∧
    exec (.setInterval tag v) s = .next (State.reply tag .ok (.interval (max 1 (min 65535 v)))
      { s with cps := { s.cps with interval := max 1 (min 65535 v) } })

/-- The scan ends READY, VALID exactly when the retire cell reads FFH and the open cell A5H, with the slot map
read from the slots, and the ALI takes frames from then on (R158, R160, R194). -/
def Obligations.ScanClassifies : Prop :=
  ∀ s : State, s.cps.state = .scanning → ∃ t, exec .checkpointScanEnd s = .next t ∧
    t = { s with ali := { s.ali with taking := true }, cps := t.cps } ∧ t.cps.nv = s.cps.nv ∧
    t.cps.state = .ready ∧ t.cps.errorRun = 0 ∧ t.cps.pendingRecord = none ∧
    t.cps.wornFlag = decide (s.cps.nv.eraseCount = 20000) ∧
    (t.cps.classification = .valid ↔ s.cps.nv.retireCell = 0xFF ∧ s.cps.nv.openCell = 0xA5) ∧
    (t.cps.classification = .valid → ∀ i,
      (t.cps.slotMap.get i = .written ↔ (s.cps.nv.slots.get i).marker = 0x5A) ∧
      (t.cps.slotMap.get i = .blank ↔ s.cps.nv.slots.get i = { body := .erased, marker := 0xFF })) ∧
    (t.cps.classification = .retired → t.cps.latest = none ∧ t.cps.nextFree = none)

/-! ## Starts -/

/-- The contents after a cold start, whatever stood before it: no array, the pass IDLE with every number 0, an
empty Lost Extent List with limit 256, clear banks, and each channel EMPTY or, with its drive inserted, probing
it (R40, R60, R77, R91, R116, R144, R157, R172, R184, R195). The nonvolatile array stays as it was, but for what the
loss of power left of the operation under way: a slot program leaves its slot partly programmed or untouched, and a
step of an erase cycle its cells as the event says, within R172 (log 9). That the CAPACITY command of a probe takes slot
0 is the model's choice (log 29). -/
def Obligations.ColdStartContents : Prop :=
  ∀ (s : State) (presence : BitVec 12) (left : PowerLeft), ∃ t, exec (.coldStart presence left) s = .next t ∧
    t.ali.taking = false ∧ t.ali.guard = none ∧ t.ali.queue = [] ∧ t.table.definition = none ∧
    t.slt.entries = [] ∧ t.slt.fullQueue = [] ∧ t.esu.requests = [] ∧ t.rbc = PassRecord.cold ∧
    t.cbs = BufferStore.cold ∧ t.lel.entries = [] ∧ t.lel.limit = 256 ∧ t.dc.share = 2 ∧
    (∀ c : Chan, t.channel c =
      if presence.getLsbD c.val then Channel.cold.Probing true else Channel.cold) ∧
    t.cps.state = .scanning ∧ t.cps.interval = 1024 ∧ t.cps.pendingRecord = none ∧ t.cps.errorRun = 0 ∧
    t.cps.op = .none ∧ t.cps.status = (if t.cps.nv.eraseCount = 20000 then .worn else .normal) ∧
    (s.cps.op = .none → t.cps.nv = s.cps.nv) ∧
    (∀ i r, s.cps.op = .program i r → t.cps.nv =
      if left.anyByte = true then
        { s.cps.nv with slots := s.cps.nv.slots.set i { body := .partly, marker := 0xFF } }
      else s.cps.nv) ∧
    (∀ answers, s.cps.op = .erase .retireCell answers → t.cps.nv = { s.cps.nv with
      retireCell := if s.cps.nv.retireCell = 0xFF then left.cells.retire else s.cps.nv.retireCell }) ∧
    (∀ answers, s.cps.op = .erase .area answers → t.cps.nv = { s.cps.nv with
      retireCell := if left.cells.retire = 0xFF then 0xFF else 0x00
      openCell := if left.cells.retire = 0xFF then 0xFF else left.cells.opening }) ∧
    (∀ answers, s.cps.op = .erase .openCell answers → t.cps.nv = { s.cps.nv with
      openCell := left.cells.opening
      eraseCount := if left.cells.opening = 0xA5 ∧ left.countRose = true then s.cps.nv.eraseCount + 1
        else s.cps.nv.eraseCount }) ∧
    (∀ i, t.eba.banks.get i = Bank.cold) ∧
    (∀ n < 8, t.eba.attention.getLsbD n = (decide (n = 6) && decide (presence ≠ 0)))

end
end

