-- ==== Sys2Proof/Laws/State.lean ====
section
/-! SUPPORT. One lemma per field per update of the state, so that no later proof unfolds a record update. -/

namespace Sys2Proof

/-- Reading a table entry after a write to it. -/
@[simp] theorem Vec.get_set_same {α : Type} {n : Nat} (v : Vec α n) (i : Fin n) (x : α) :
    (v.set i x).get i = x := by
  simp [Vec.get, Vec.set]

/-- Reading another table entry after a write. -/
theorem Vec.get_set_other {α : Type} {n : Nat} (v : Vec α n) (i j : Fin n) (x : α) (h : i ≠ j) :
    (v.set i x).get j = v.get j := by
  have : i.val ≠ j.val := fun e => h (Fin.ext e)
  simp [Vec.get, Vec.set, this]

/-- Reading a table to whose entries a function was applied. -/
@[simp] theorem Vec.get_map {α β : Type} {n : Nat} (v : Vec α n) (f : α → β) (i : Fin n) :
    (v.map f).get i = f (v.get i) := by
  simp [Vec.get, Vec.map]

/-- A second write of an entry replaces the first. -/
@[simp] theorem Vec.set_set {α : Type} {n : Nat} (v : Vec α n) (i : Fin n) (x y : α) :
    (v.set i x).set i y = v.set i y := by
  simp [Vec.set]

/-- Reading a table of copies. -/
@[simp] theorem Vec.get_replicate {α : Type} {n : Nat} (i : Fin n) (x : α) : (Vec.replicate n x).get i = x := by
  simp [Vec.get, Vec.replicate]

end Sys2Proof

namespace Sys2Proof.Machine

@[simp] theorem State.putPass_ali (s : State) (p : PassRecord) :
    (State.putPass p s).ali = s.ali := rfl
@[simp] theorem State.putPass_table (s : State) (p : PassRecord) :
    (State.putPass p s).table = s.table := rfl
@[simp] theorem State.putPass_slt (s : State) (p : PassRecord) :
    (State.putPass p s).slt = s.slt := rfl
@[simp] theorem State.putPass_esu (s : State) (p : PassRecord) :
    (State.putPass p s).esu = s.esu := rfl
@[simp] theorem State.putPass_rbc (s : State) (p : PassRecord) :
    (State.putPass p s).rbc = p := rfl
@[simp] theorem State.putPass_cbs (s : State) (p : PassRecord) :
    (State.putPass p s).cbs = s.cbs := rfl
@[simp] theorem State.putPass_dc (s : State) (p : PassRecord) :
    (State.putPass p s).dc = s.dc := rfl
@[simp] theorem State.putPass_lel (s : State) (p : PassRecord) :
    (State.putPass p s).lel = s.lel := rfl
@[simp] theorem State.putPass_cps (s : State) (p : PassRecord) :
    (State.putPass p s).cps = s.cps := rfl
@[simp] theorem State.putPass_eba (s : State) (p : PassRecord) :
    (State.putPass p s).eba = s.eba := rfl
@[simp] theorem State.putPass_free (s : State) (p : PassRecord) :
    (State.putPass p s).free = s.free := rfl
@[simp] theorem State.putPass_agenda (s : State) (p : PassRecord) :
    (State.putPass p s).agenda = s.agenda := rfl
@[simp] theorem State.putPass_pending (s : State) (p : PassRecord) :
    (State.putPass p s).pending = s.pending := rfl

@[simp] theorem State.putChannel_ali (s : State) (c : Chan) (x : Channel) :
    (State.putChannel c x s).ali = s.ali := rfl
@[simp] theorem State.putChannel_table (s : State) (c : Chan) (x : Channel) :
    (State.putChannel c x s).table = s.table := rfl
@[simp] theorem State.putChannel_slt (s : State) (c : Chan) (x : Channel) :
    (State.putChannel c x s).slt = s.slt := rfl
@[simp] theorem State.putChannel_esu (s : State) (c : Chan) (x : Channel) :
    (State.putChannel c x s).esu = s.esu := rfl
@[simp] theorem State.putChannel_rbc (s : State) (c : Chan) (x : Channel) :
    (State.putChannel c x s).rbc = s.rbc := rfl
@[simp] theorem State.putChannel_cbs (s : State) (c : Chan) (x : Channel) :
    (State.putChannel c x s).cbs = s.cbs := rfl
@[simp] theorem State.putChannel_dc (s : State) (c : Chan) (x : Channel) :
    (State.putChannel c x s).dc = { s.dc with channels := s.dc.channels.set c x } := rfl
@[simp] theorem State.putChannel_lel (s : State) (c : Chan) (x : Channel) :
    (State.putChannel c x s).lel = s.lel := rfl
@[simp] theorem State.putChannel_cps (s : State) (c : Chan) (x : Channel) :
    (State.putChannel c x s).cps = s.cps := rfl
@[simp] theorem State.putChannel_eba (s : State) (c : Chan) (x : Channel) :
    (State.putChannel c x s).eba = s.eba := rfl
@[simp] theorem State.putChannel_free (s : State) (c : Chan) (x : Channel) :
    (State.putChannel c x s).free = s.free := rfl
@[simp] theorem State.putChannel_agenda (s : State) (c : Chan) (x : Channel) :
    (State.putChannel c x s).agenda = s.agenda := rfl
@[simp] theorem State.putChannel_pending (s : State) (c : Chan) (x : Channel) :
    (State.putChannel c x s).pending = s.pending := rfl

@[simp] theorem State.putSet_ali (s : State) (i : Fin 256) (x : BufferSet) :
    (s.putSet i x).ali = s.ali := rfl
@[simp] theorem State.putSet_table (s : State) (i : Fin 256) (x : BufferSet) :
    (s.putSet i x).table = s.table := rfl
@[simp] theorem State.putSet_slt (s : State) (i : Fin 256) (x : BufferSet) :
    (s.putSet i x).slt = s.slt := rfl
@[simp] theorem State.putSet_esu (s : State) (i : Fin 256) (x : BufferSet) :
    (s.putSet i x).esu = s.esu := rfl
@[simp] theorem State.putSet_rbc (s : State) (i : Fin 256) (x : BufferSet) :
    (s.putSet i x).rbc = s.rbc := rfl
@[simp] theorem State.putSet_cbs (s : State) (i : Fin 256) (x : BufferSet) :
    (s.putSet i x).cbs = s.cbs.putSet i x := rfl
@[simp] theorem State.putSet_dc (s : State) (i : Fin 256) (x : BufferSet) :
    (s.putSet i x).dc = s.dc := rfl
@[simp] theorem State.putSet_lel (s : State) (i : Fin 256) (x : BufferSet) :
    (s.putSet i x).lel = s.lel := rfl
@[simp] theorem State.putSet_cps (s : State) (i : Fin 256) (x : BufferSet) :
    (s.putSet i x).cps = s.cps := rfl
@[simp] theorem State.putSet_eba (s : State) (i : Fin 256) (x : BufferSet) :
    (s.putSet i x).eba = s.eba := rfl
@[simp] theorem State.putSet_free (s : State) (i : Fin 256) (x : BufferSet) :
    (s.putSet i x).free = s.free := rfl
@[simp] theorem State.putSet_agenda (s : State) (i : Fin 256) (x : BufferSet) :
    (s.putSet i x).agenda = s.agenda := rfl
@[simp] theorem State.putSet_pending (s : State) (i : Fin 256) (x : BufferSet) :
    (s.putSet i x).pending = s.pending := rfl

@[simp] theorem State.setBank_ali (s : State) (b : BankNo) (x : Bank) :
    (s.setBank b x).ali = s.ali := rfl
@[simp] theorem State.setBank_table (s : State) (b : BankNo) (x : Bank) :
    (s.setBank b x).table = s.table := rfl
@[simp] theorem State.setBank_slt (s : State) (b : BankNo) (x : Bank) :
    (s.setBank b x).slt = s.slt := rfl
@[simp] theorem State.setBank_esu (s : State) (b : BankNo) (x : Bank) :
    (s.setBank b x).esu = s.esu := rfl
@[simp] theorem State.setBank_rbc (s : State) (b : BankNo) (x : Bank) :
    (s.setBank b x).rbc = s.rbc := rfl
@[simp] theorem State.setBank_cbs (s : State) (b : BankNo) (x : Bank) :
    (s.setBank b x).cbs = s.cbs := rfl
@[simp] theorem State.setBank_dc (s : State) (b : BankNo) (x : Bank) :
    (s.setBank b x).dc = s.dc := rfl
@[simp] theorem State.setBank_lel (s : State) (b : BankNo) (x : Bank) :
    (s.setBank b x).lel = s.lel := rfl
@[simp] theorem State.setBank_cps (s : State) (b : BankNo) (x : Bank) :
    (s.setBank b x).cps = s.cps := rfl
@[simp] theorem State.setBank_eba (s : State) (b : BankNo) (x : Bank) :
    (s.setBank b x).eba = { s.eba with banks := s.eba.banks.set b x } := rfl
@[simp] theorem State.setBank_free (s : State) (b : BankNo) (x : Bank) :
    (s.setBank b x).free = s.free := rfl
@[simp] theorem State.setBank_agenda (s : State) (b : BankNo) (x : Bank) :
    (s.setBank b x).agenda = s.agenda := rfl
@[simp] theorem State.setBank_pending (s : State) (b : BankNo) (x : Bank) :
    (s.setBank b x).pending = s.pending := rfl

@[simp] theorem State.putStore_ali (s : State) (c : CheckpointStore) :
    (s.putStore c).ali = s.ali := rfl
@[simp] theorem State.putStore_table (s : State) (c : CheckpointStore) :
    (s.putStore c).table = s.table := rfl
@[simp] theorem State.putStore_slt (s : State) (c : CheckpointStore) :
    (s.putStore c).slt = s.slt := rfl
@[simp] theorem State.putStore_esu (s : State) (c : CheckpointStore) :
    (s.putStore c).esu = s.esu := rfl
@[simp] theorem State.putStore_rbc (s : State) (c : CheckpointStore) :
    (s.putStore c).rbc = s.rbc := rfl
@[simp] theorem State.putStore_cbs (s : State) (c : CheckpointStore) :
    (s.putStore c).cbs = s.cbs := rfl
@[simp] theorem State.putStore_dc (s : State) (c : CheckpointStore) :
    (s.putStore c).dc = s.dc := rfl
@[simp] theorem State.putStore_lel (s : State) (c : CheckpointStore) :
    (s.putStore c).lel = s.lel := rfl
@[simp] theorem State.putStore_cps (s : State) (c : CheckpointStore) :
    (s.putStore c).cps = c := rfl
@[simp] theorem State.putStore_eba (s : State) (c : CheckpointStore) :
    (s.putStore c).eba = s.eba := rfl
@[simp] theorem State.putStore_free (s : State) (c : CheckpointStore) :
    (s.putStore c).free = s.free := rfl
@[simp] theorem State.putStore_agenda (s : State) (c : CheckpointStore) :
    (s.putStore c).agenda = s.agenda := rfl
@[simp] theorem State.putStore_pending (s : State) (c : CheckpointStore) :
    (s.putStore c).pending = s.pending := rfl

@[simp] theorem State.setGuard_ali (s : State) (g : Option Guard) :
    (State.setGuard g s).ali = { s.ali with guard := g } := rfl
@[simp] theorem State.setGuard_table (s : State) (g : Option Guard) :
    (State.setGuard g s).table = s.table := rfl
@[simp] theorem State.setGuard_slt (s : State) (g : Option Guard) :
    (State.setGuard g s).slt = s.slt := rfl
@[simp] theorem State.setGuard_esu (s : State) (g : Option Guard) :
    (State.setGuard g s).esu = s.esu := rfl
@[simp] theorem State.setGuard_rbc (s : State) (g : Option Guard) :
    (State.setGuard g s).rbc = s.rbc := rfl
@[simp] theorem State.setGuard_cbs (s : State) (g : Option Guard) :
    (State.setGuard g s).cbs = s.cbs := rfl
@[simp] theorem State.setGuard_dc (s : State) (g : Option Guard) :
    (State.setGuard g s).dc = s.dc := rfl
@[simp] theorem State.setGuard_lel (s : State) (g : Option Guard) :
    (State.setGuard g s).lel = s.lel := rfl
@[simp] theorem State.setGuard_cps (s : State) (g : Option Guard) :
    (State.setGuard g s).cps = s.cps := rfl
@[simp] theorem State.setGuard_eba (s : State) (g : Option Guard) :
    (State.setGuard g s).eba = s.eba := rfl
@[simp] theorem State.setGuard_free (s : State) (g : Option Guard) :
    (State.setGuard g s).free = s.free := rfl
@[simp] theorem State.setGuard_agenda (s : State) (g : Option Guard) :
    (State.setGuard g s).agenda = s.agenda := rfl
@[simp] theorem State.setGuard_pending (s : State) (g : Option Guard) :
    (State.setGuard g s).pending = s.pending := rfl

@[simp] theorem State.putRequest_ali (s : State) (r : ExtentReq) :
    (State.putRequest r s).ali = s.ali := rfl
@[simp] theorem State.putRequest_table (s : State) (r : ExtentReq) :
    (State.putRequest r s).table = s.table := rfl
@[simp] theorem State.putRequest_slt (s : State) (r : ExtentReq) :
    (State.putRequest r s).slt = s.slt := rfl
@[simp] theorem State.putRequest_esu (s : State) (r : ExtentReq) :
    (State.putRequest r s).esu = { requests := s.esu.requests.map fun x => if x.tag == r.tag then r else x } := rfl
@[simp] theorem State.putRequest_rbc (s : State) (r : ExtentReq) :
    (State.putRequest r s).rbc = s.rbc := rfl
@[simp] theorem State.putRequest_cbs (s : State) (r : ExtentReq) :
    (State.putRequest r s).cbs = s.cbs := rfl
@[simp] theorem State.putRequest_dc (s : State) (r : ExtentReq) :
    (State.putRequest r s).dc = s.dc := rfl
@[simp] theorem State.putRequest_lel (s : State) (r : ExtentReq) :
    (State.putRequest r s).lel = s.lel := rfl
@[simp] theorem State.putRequest_cps (s : State) (r : ExtentReq) :
    (State.putRequest r s).cps = s.cps := rfl
@[simp] theorem State.putRequest_eba (s : State) (r : ExtentReq) :
    (State.putRequest r s).eba = s.eba := rfl
@[simp] theorem State.putRequest_free (s : State) (r : ExtentReq) :
    (State.putRequest r s).free = s.free := rfl
@[simp] theorem State.putRequest_agenda (s : State) (r : ExtentReq) :
    (State.putRequest r s).agenda = s.agenda := rfl
@[simp] theorem State.putRequest_pending (s : State) (r : ExtentReq) :
    (State.putRequest r s).pending = s.pending := rfl

@[simp] theorem State.dropRequest_ali (s : State) (tag : Nat) :
    (State.dropRequest tag s).ali = s.ali := rfl
@[simp] theorem State.dropRequest_table (s : State) (tag : Nat) :
    (State.dropRequest tag s).table = s.table := rfl
@[simp] theorem State.dropRequest_slt (s : State) (tag : Nat) :
    (State.dropRequest tag s).slt = s.slt := rfl
@[simp] theorem State.dropRequest_esu (s : State) (tag : Nat) :
    (State.dropRequest tag s).esu = { requests := s.esu.requests.filter fun x => x.tag != tag } := rfl
@[simp] theorem State.dropRequest_rbc (s : State) (tag : Nat) :
    (State.dropRequest tag s).rbc = s.rbc := rfl
@[simp] theorem State.dropRequest_cbs (s : State) (tag : Nat) :
    (State.dropRequest tag s).cbs = s.cbs := rfl
@[simp] theorem State.dropRequest_dc (s : State) (tag : Nat) :
    (State.dropRequest tag s).dc = s.dc := rfl
@[simp] theorem State.dropRequest_lel (s : State) (tag : Nat) :
    (State.dropRequest tag s).lel = s.lel := rfl
@[simp] theorem State.dropRequest_cps (s : State) (tag : Nat) :
    (State.dropRequest tag s).cps = s.cps := rfl
@[simp] theorem State.dropRequest_eba (s : State) (tag : Nat) :
    (State.dropRequest tag s).eba = s.eba := rfl
@[simp] theorem State.dropRequest_free (s : State) (tag : Nat) :
    (State.dropRequest tag s).free = s.free := rfl
@[simp] theorem State.dropRequest_agenda (s : State) (tag : Nat) :
    (State.dropRequest tag s).agenda = s.agenda := rfl
@[simp] theorem State.dropRequest_pending (s : State) (tag : Nat) :
    (State.dropRequest tag s).pending = s.pending := rfl

@[simp] theorem State.later_ali (s : State) (t : Task) :
    (State.later t s).ali = s.ali := rfl
@[simp] theorem State.later_table (s : State) (t : Task) :
    (State.later t s).table = s.table := rfl
@[simp] theorem State.later_slt (s : State) (t : Task) :
    (State.later t s).slt = s.slt := rfl
@[simp] theorem State.later_esu (s : State) (t : Task) :
    (State.later t s).esu = s.esu := rfl
@[simp] theorem State.later_rbc (s : State) (t : Task) :
    (State.later t s).rbc = s.rbc := rfl
@[simp] theorem State.later_cbs (s : State) (t : Task) :
    (State.later t s).cbs = s.cbs := rfl
@[simp] theorem State.later_dc (s : State) (t : Task) :
    (State.later t s).dc = s.dc := rfl
@[simp] theorem State.later_lel (s : State) (t : Task) :
    (State.later t s).lel = s.lel := rfl
@[simp] theorem State.later_cps (s : State) (t : Task) :
    (State.later t s).cps = s.cps := rfl
@[simp] theorem State.later_eba (s : State) (t : Task) :
    (State.later t s).eba = s.eba := rfl
@[simp] theorem State.later_free (s : State) (t : Task) :
    (State.later t s).free = s.free := rfl
@[simp] theorem State.later_agenda (s : State) (t : Task) :
    (State.later t s).agenda = s.agenda ++ [t] := rfl
@[simp] theorem State.later_pending (s : State) (t : Task) :
    (State.later t s).pending = s.pending := rfl

@[simp] theorem State.laterAll_ali (s : State) (ts : List Task) :
    (State.laterAll ts s).ali = s.ali := rfl
@[simp] theorem State.laterAll_table (s : State) (ts : List Task) :
    (State.laterAll ts s).table = s.table := rfl
@[simp] theorem State.laterAll_slt (s : State) (ts : List Task) :
    (State.laterAll ts s).slt = s.slt := rfl
@[simp] theorem State.laterAll_esu (s : State) (ts : List Task) :
    (State.laterAll ts s).esu = s.esu := rfl
@[simp] theorem State.laterAll_rbc (s : State) (ts : List Task) :
    (State.laterAll ts s).rbc = s.rbc := rfl
@[simp] theorem State.laterAll_cbs (s : State) (ts : List Task) :
    (State.laterAll ts s).cbs = s.cbs := rfl
@[simp] theorem State.laterAll_dc (s : State) (ts : List Task) :
    (State.laterAll ts s).dc = s.dc := rfl
@[simp] theorem State.laterAll_lel (s : State) (ts : List Task) :
    (State.laterAll ts s).lel = s.lel := rfl
@[simp] theorem State.laterAll_cps (s : State) (ts : List Task) :
    (State.laterAll ts s).cps = s.cps := rfl
@[simp] theorem State.laterAll_eba (s : State) (ts : List Task) :
    (State.laterAll ts s).eba = s.eba := rfl
@[simp] theorem State.laterAll_free (s : State) (ts : List Task) :
    (State.laterAll ts s).free = s.free := rfl
@[simp] theorem State.laterAll_agenda (s : State) (ts : List Task) :
    (State.laterAll ts s).agenda = s.agenda ++ ts := rfl
@[simp] theorem State.laterAll_pending (s : State) (ts : List Task) :
    (State.laterAll ts s).pending = s.pending := rfl

@[simp] theorem State.withPending_ali (s : State) (cs : List Instr) :
    (s.withPending cs).ali = s.ali := rfl
@[simp] theorem State.withPending_table (s : State) (cs : List Instr) :
    (s.withPending cs).table = s.table := rfl
@[simp] theorem State.withPending_slt (s : State) (cs : List Instr) :
    (s.withPending cs).slt = s.slt := rfl
@[simp] theorem State.withPending_esu (s : State) (cs : List Instr) :
    (s.withPending cs).esu = s.esu := rfl
@[simp] theorem State.withPending_rbc (s : State) (cs : List Instr) :
    (s.withPending cs).rbc = s.rbc := rfl
@[simp] theorem State.withPending_cbs (s : State) (cs : List Instr) :
    (s.withPending cs).cbs = s.cbs := rfl
@[simp] theorem State.withPending_dc (s : State) (cs : List Instr) :
    (s.withPending cs).dc = s.dc := rfl
@[simp] theorem State.withPending_lel (s : State) (cs : List Instr) :
    (s.withPending cs).lel = s.lel := rfl
@[simp] theorem State.withPending_cps (s : State) (cs : List Instr) :
    (s.withPending cs).cps = s.cps := rfl
@[simp] theorem State.withPending_eba (s : State) (cs : List Instr) :
    (s.withPending cs).eba = s.eba := rfl
@[simp] theorem State.withPending_free (s : State) (cs : List Instr) :
    (s.withPending cs).free = s.free := rfl
@[simp] theorem State.withPending_agenda (s : State) (cs : List Instr) :
    (s.withPending cs).agenda = s.agenda := rfl
@[simp] theorem State.withPending_pending (s : State) (cs : List Instr) :
    (s.withPending cs).pending = cs := rfl

@[simp] theorem State.invalidate_ali (s : State) (gone : Way → Line → Bool) :
    (State.invalidate gone s).ali = s.ali := rfl
@[simp] theorem State.invalidate_table (s : State) (gone : Way → Line → Bool) :
    (State.invalidate gone s).table = s.table := rfl
@[simp] theorem State.invalidate_slt (s : State) (gone : Way → Line → Bool) :
    (State.invalidate gone s).slt = s.slt := rfl
@[simp] theorem State.invalidate_esu (s : State) (gone : Way → Line → Bool) :
    (State.invalidate gone s).esu = s.esu := rfl
@[simp] theorem State.invalidate_rbc (s : State) (gone : Way → Line → Bool) :
    (State.invalidate gone s).rbc = s.rbc := rfl
@[simp] theorem State.invalidate_cbs (s : State) (gone : Way → Line → Bool) :
    (State.invalidate gone s).cbs = { s.cbs with sets := s.cbs.sets.map (BufferSet.drop gone) } := rfl
@[simp] theorem State.invalidate_dc (s : State) (gone : Way → Line → Bool) :
    (State.invalidate gone s).dc = s.dc := rfl
@[simp] theorem State.invalidate_lel (s : State) (gone : Way → Line → Bool) :
    (State.invalidate gone s).lel = s.lel := rfl
@[simp] theorem State.invalidate_cps (s : State) (gone : Way → Line → Bool) :
    (State.invalidate gone s).cps = s.cps := rfl
@[simp] theorem State.invalidate_eba (s : State) (gone : Way → Line → Bool) :
    (State.invalidate gone s).eba = s.eba := rfl
@[simp] theorem State.invalidate_free (s : State) (gone : Way → Line → Bool) :
    (State.invalidate gone s).free = s.free := rfl
@[simp] theorem State.invalidate_agenda (s : State) (gone : Way → Line → Bool) :
    (State.invalidate gone s).agenda = s.agenda := rfl
@[simp] theorem State.invalidate_pending (s : State) (gone : Way → Line → Bool) :
    (State.invalidate gone s).pending = s.pending := rfl

@[simp] theorem State.trim_ali (s : State) (x first count : Nat) :
    (State.trim x first count s).ali = s.ali := rfl
@[simp] theorem State.trim_table (s : State) (x first count : Nat) :
    (State.trim x first count s).table = s.table := rfl
@[simp] theorem State.trim_slt (s : State) (x first count : Nat) :
    (State.trim x first count s).slt = s.slt := rfl
@[simp] theorem State.trim_esu (s : State) (x first count : Nat) :
    (State.trim x first count s).esu = s.esu := rfl
@[simp] theorem State.trim_rbc (s : State) (x first count : Nat) :
    (State.trim x first count s).rbc = s.rbc := rfl
@[simp] theorem State.trim_cbs (s : State) (x first count : Nat) :
    (State.trim x first count s).cbs = s.cbs := rfl
@[simp] theorem State.trim_dc (s : State) (x first count : Nat) :
    (State.trim x first count s).dc = s.dc := rfl
@[simp] theorem State.trim_lel (s : State) (x first count : Nat) :
    (State.trim x first count s).lel = s.lel.remove x first count := rfl
@[simp] theorem State.trim_cps (s : State) (x first count : Nat) :
    (State.trim x first count s).cps = s.cps := rfl
@[simp] theorem State.trim_eba (s : State) (x first count : Nat) :
    (State.trim x first count s).eba = s.eba := rfl
@[simp] theorem State.trim_free (s : State) (x first count : Nat) :
    (State.trim x first count s).free = s.free := rfl
@[simp] theorem State.trim_agenda (s : State) (x first count : Nat) :
    (State.trim x first count s).agenda = s.agenda := rfl
@[simp] theorem State.trim_pending (s : State) (x first count : Nat) :
    (State.trim x first count s).pending = s.pending := rfl

@[simp] theorem State.define_ali (s : State) (d : Option ArrayDef) :
    (State.define d s).ali = s.ali := rfl
@[simp] theorem State.define_table (s : State) (d : Option ArrayDef) :
    (State.define d s).table = { definition := d } := rfl
@[simp] theorem State.define_slt (s : State) (d : Option ArrayDef) :
    (State.define d s).slt = s.slt := rfl
@[simp] theorem State.define_esu (s : State) (d : Option ArrayDef) :
    (State.define d s).esu = s.esu := rfl
@[simp] theorem State.define_rbc (s : State) (d : Option ArrayDef) :
    (State.define d s).rbc = s.rbc := rfl
@[simp] theorem State.define_cbs (s : State) (d : Option ArrayDef) :
    (State.define d s).cbs = { s.cbs with sets := s.cbs.sets.map (BufferSet.drop fun _ _ => true) } := rfl
@[simp] theorem State.define_dc (s : State) (d : Option ArrayDef) :
    (State.define d s).dc = s.dc := rfl
@[simp] theorem State.define_lel (s : State) (d : Option ArrayDef) :
    (State.define d s).lel = { s.lel with entries := [] } := rfl
@[simp] theorem State.define_cps (s : State) (d : Option ArrayDef) :
    (State.define d s).cps = s.cps := rfl
@[simp] theorem State.define_eba (s : State) (d : Option ArrayDef) :
    (State.define d s).eba = s.eba := rfl
@[simp] theorem State.define_free (s : State) (d : Option ArrayDef) :
    (State.define d s).free = s.free := rfl
@[simp] theorem State.define_agenda (s : State) (d : Option ArrayDef) :
    (State.define d s).agenda = s.agenda := rfl
@[simp] theorem State.define_pending (s : State) (d : Option ArrayDef) :
    (State.define d s).pending = s.pending := rfl

@[simp] theorem State.channel_putChannel_same (s : State) (c : Chan) (x : Channel) :
    (State.putChannel c x s).channel c = x := by
  simp [State.channel, Vec.get, Vec.set]

theorem State.channel_putChannel_other (s : State) (c d : Chan) (x : Channel) (h : c ≠ d) :
    (State.putChannel c x s).channel d = s.channel d := by
  have : c.val ≠ d.val := fun e => h (Fin.ext e)
  simp [State.channel, Vec.get, Vec.set, this]

@[simp] theorem State.putChannel_putChannel (s : State) (c : Chan) (x y : Channel) :
    State.putChannel c y (State.putChannel c x s) = State.putChannel c y s := by
  simp [State.putChannel]

end Sys2Proof.Machine
end

