-- ==== Sys2Proof/Laws/Link.lean ====
section
/-! SUPPORT. What handing a frame, latching a class and taking an error leave unchanged, and what they do
(spec/10, R175, R176, R180, R181; spec/11, R189, R192). -/

namespace Sys2Proof.Machine

@[simp] theorem State.sendOldest_table (s : State) : (s.sendOldest).table = s.table := by
  unfold State.sendOldest
  split <;> rfl
@[simp] theorem State.sendOldest_slt (s : State) : (s.sendOldest).slt = s.slt := by
  unfold State.sendOldest
  split <;> rfl
@[simp] theorem State.sendOldest_esu (s : State) : (s.sendOldest).esu = s.esu := by
  unfold State.sendOldest
  split <;> rfl
@[simp] theorem State.sendOldest_rbc (s : State) : (s.sendOldest).rbc = s.rbc := by
  unfold State.sendOldest
  split <;> rfl
@[simp] theorem State.sendOldest_cbs (s : State) : (s.sendOldest).cbs = s.cbs := by
  unfold State.sendOldest
  split <;> rfl
@[simp] theorem State.sendOldest_dc (s : State) : (s.sendOldest).dc = s.dc := by
  unfold State.sendOldest
  split <;> rfl
@[simp] theorem State.sendOldest_lel (s : State) : (s.sendOldest).lel = s.lel := by
  unfold State.sendOldest
  split <;> rfl
@[simp] theorem State.sendOldest_cps (s : State) : (s.sendOldest).cps = s.cps := by
  unfold State.sendOldest
  split <;> rfl
@[simp] theorem State.sendOldest_free (s : State) : (s.sendOldest).free = s.free := by
  unfold State.sendOldest
  split <;> rfl
@[simp] theorem State.sendOldest_agenda (s : State) : (s.sendOldest).agenda = s.agenda := by
  unfold State.sendOldest
  split <;> rfl
@[simp] theorem State.sendOldest_pending (s : State) : (s.sendOldest).pending = s.pending := by
  unfold State.sendOldest
  split <;> rfl
@[simp] theorem State.sendOldest_eba_banks (s : State) : (s.sendOldest).eba.banks = s.eba.banks := by
  unfold State.sendOldest
  split <;> rfl
@[simp] theorem State.sendOldest_ali_taking (s : State) : (s.sendOldest).ali.taking = s.ali.taking := by
  unfold State.sendOldest
  split <;> rfl
@[simp] theorem State.sendOldest_ali_guard (s : State) : (s.sendOldest).ali.guard = s.ali.guard := by
  unfold State.sendOldest
  split <;> rfl
@[simp] theorem State.sendOldest_eba_attention (s : State) : (s.sendOldest).eba.attention = s.eba.attention := by
  unfold State.sendOldest
  split <;> rfl

@[simp] theorem State.chooseFrame_table (s : State) : (s.chooseFrame).table = s.table := by
  unfold State.chooseFrame
  split
  · rfl
  · split
    · split
      · rfl
      · simp
    · simp
@[simp] theorem State.chooseFrame_slt (s : State) : (s.chooseFrame).slt = s.slt := by
  unfold State.chooseFrame
  split
  · rfl
  · split
    · split
      · rfl
      · simp
    · simp
@[simp] theorem State.chooseFrame_esu (s : State) : (s.chooseFrame).esu = s.esu := by
  unfold State.chooseFrame
  split
  · rfl
  · split
    · split
      · rfl
      · simp
    · simp
@[simp] theorem State.chooseFrame_rbc (s : State) : (s.chooseFrame).rbc = s.rbc := by
  unfold State.chooseFrame
  split
  · rfl
  · split
    · split
      · rfl
      · simp
    · simp
@[simp] theorem State.chooseFrame_cbs (s : State) : (s.chooseFrame).cbs = s.cbs := by
  unfold State.chooseFrame
  split
  · rfl
  · split
    · split
      · rfl
      · simp
    · simp
@[simp] theorem State.chooseFrame_dc (s : State) : (s.chooseFrame).dc = s.dc := by
  unfold State.chooseFrame
  split
  · rfl
  · split
    · split
      · rfl
      · simp
    · simp
@[simp] theorem State.chooseFrame_lel (s : State) : (s.chooseFrame).lel = s.lel := by
  unfold State.chooseFrame
  split
  · rfl
  · split
    · split
      · rfl
      · simp
    · simp
@[simp] theorem State.chooseFrame_cps (s : State) : (s.chooseFrame).cps = s.cps := by
  unfold State.chooseFrame
  split
  · rfl
  · split
    · split
      · rfl
      · simp
    · simp
@[simp] theorem State.chooseFrame_free (s : State) : (s.chooseFrame).free = s.free := by
  unfold State.chooseFrame
  split
  · rfl
  · split
    · split
      · rfl
      · simp
    · simp
@[simp] theorem State.chooseFrame_agenda (s : State) : (s.chooseFrame).agenda = s.agenda := by
  unfold State.chooseFrame
  split
  · rfl
  · split
    · split
      · rfl
      · simp
    · simp
@[simp] theorem State.chooseFrame_pending (s : State) : (s.chooseFrame).pending = s.pending := by
  unfold State.chooseFrame
  split
  · rfl
  · split
    · split
      · rfl
      · simp
    · simp
@[simp] theorem State.chooseFrame_eba_banks (s : State) : (s.chooseFrame).eba.banks = s.eba.banks := by
  unfold State.chooseFrame
  split
  · rfl
  · split
    · split
      · rfl
      · simp
    · simp
@[simp] theorem State.chooseFrame_ali_taking (s : State) : (s.chooseFrame).ali.taking = s.ali.taking := by
  unfold State.chooseFrame
  split
  · rfl
  · split
    · split
      · rfl
      · simp
    · simp
@[simp] theorem State.chooseFrame_ali_guard (s : State) : (s.chooseFrame).ali.guard = s.ali.guard := by
  unfold State.chooseFrame
  split
  · rfl
  · split
    · split
      · rfl
      · simp
    · simp
@[simp] theorem State.chooseFrame_eba_attention (s : State) : (s.chooseFrame).eba.attention = s.eba.attention := by
  unfold State.chooseFrame
  split
  · rfl
  · split
    · split
      · rfl
      · simp
    · simp

@[simp] theorem State.ifIdleChoose_table (s : State) : (s.ifIdleChoose).table = s.table := by
  unfold State.ifIdleChoose
  split <;> simp
@[simp] theorem State.ifIdleChoose_slt (s : State) : (s.ifIdleChoose).slt = s.slt := by
  unfold State.ifIdleChoose
  split <;> simp
@[simp] theorem State.ifIdleChoose_esu (s : State) : (s.ifIdleChoose).esu = s.esu := by
  unfold State.ifIdleChoose
  split <;> simp
@[simp] theorem State.ifIdleChoose_rbc (s : State) : (s.ifIdleChoose).rbc = s.rbc := by
  unfold State.ifIdleChoose
  split <;> simp
@[simp] theorem State.ifIdleChoose_cbs (s : State) : (s.ifIdleChoose).cbs = s.cbs := by
  unfold State.ifIdleChoose
  split <;> simp
@[simp] theorem State.ifIdleChoose_dc (s : State) : (s.ifIdleChoose).dc = s.dc := by
  unfold State.ifIdleChoose
  split <;> simp
@[simp] theorem State.ifIdleChoose_lel (s : State) : (s.ifIdleChoose).lel = s.lel := by
  unfold State.ifIdleChoose
  split <;> simp
@[simp] theorem State.ifIdleChoose_cps (s : State) : (s.ifIdleChoose).cps = s.cps := by
  unfold State.ifIdleChoose
  split <;> simp
@[simp] theorem State.ifIdleChoose_free (s : State) : (s.ifIdleChoose).free = s.free := by
  unfold State.ifIdleChoose
  split <;> simp
@[simp] theorem State.ifIdleChoose_agenda (s : State) : (s.ifIdleChoose).agenda = s.agenda := by
  unfold State.ifIdleChoose
  split <;> simp
@[simp] theorem State.ifIdleChoose_pending (s : State) : (s.ifIdleChoose).pending = s.pending := by
  unfold State.ifIdleChoose
  split <;> simp
@[simp] theorem State.ifIdleChoose_eba_banks (s : State) : (s.ifIdleChoose).eba.banks = s.eba.banks := by
  unfold State.ifIdleChoose
  split <;> simp
@[simp] theorem State.ifIdleChoose_ali_taking (s : State) : (s.ifIdleChoose).ali.taking = s.ali.taking := by
  unfold State.ifIdleChoose
  split <;> simp
@[simp] theorem State.ifIdleChoose_ali_guard (s : State) : (s.ifIdleChoose).ali.guard = s.ali.guard := by
  unfold State.ifIdleChoose
  split <;> simp
@[simp] theorem State.ifIdleChoose_eba_attention (s : State) : (s.ifIdleChoose).eba.attention = s.eba.attention := by
  unfold State.ifIdleChoose
  split <;> simp

@[simp] theorem State.handFrame_table (s : State) (f : Frame) : (s.handFrame f).table = s.table := by
  simp [State.handFrame]
@[simp] theorem State.handFrame_slt (s : State) (f : Frame) : (s.handFrame f).slt = s.slt := by
  simp [State.handFrame]
@[simp] theorem State.handFrame_esu (s : State) (f : Frame) : (s.handFrame f).esu = s.esu := by
  simp [State.handFrame]
@[simp] theorem State.handFrame_rbc (s : State) (f : Frame) : (s.handFrame f).rbc = s.rbc := by
  simp [State.handFrame]
@[simp] theorem State.handFrame_cbs (s : State) (f : Frame) : (s.handFrame f).cbs = s.cbs := by
  simp [State.handFrame]
@[simp] theorem State.handFrame_dc (s : State) (f : Frame) : (s.handFrame f).dc = s.dc := by
  simp [State.handFrame]
@[simp] theorem State.handFrame_lel (s : State) (f : Frame) : (s.handFrame f).lel = s.lel := by
  simp [State.handFrame]
@[simp] theorem State.handFrame_cps (s : State) (f : Frame) : (s.handFrame f).cps = s.cps := by
  simp [State.handFrame]
@[simp] theorem State.handFrame_free (s : State) (f : Frame) : (s.handFrame f).free = s.free := by
  simp [State.handFrame]
@[simp] theorem State.handFrame_agenda (s : State) (f : Frame) : (s.handFrame f).agenda = s.agenda := by
  simp [State.handFrame]
@[simp] theorem State.handFrame_pending (s : State) (f : Frame) : (s.handFrame f).pending = s.pending := by
  simp [State.handFrame]
@[simp] theorem State.handFrame_eba_banks (s : State) (f : Frame) : (s.handFrame f).eba.banks = s.eba.banks := by
  simp [State.handFrame]
@[simp] theorem State.handFrame_ali_taking (s : State) (f : Frame) : (s.handFrame f).ali.taking = s.ali.taking := by
  simp [State.handFrame]
@[simp] theorem State.handFrame_ali_guard (s : State) (f : Frame) : (s.handFrame f).ali.guard = s.ali.guard := by
  simp [State.handFrame]
@[simp] theorem State.handFrame_eba_attention (s : State) (f : Frame) : (s.handFrame f).eba.attention = s.eba.attention := by
  simp [State.handFrame]

@[simp] theorem State.reply_table (s : State) (tag : Nat) (st : Status) (b : ReplyBody) : (s.reply tag st b).table = s.table := by
  simp [State.reply]
@[simp] theorem State.reply_slt (s : State) (tag : Nat) (st : Status) (b : ReplyBody) : (s.reply tag st b).slt = s.slt := by
  simp [State.reply]
@[simp] theorem State.reply_esu (s : State) (tag : Nat) (st : Status) (b : ReplyBody) : (s.reply tag st b).esu = s.esu := by
  simp [State.reply]
@[simp] theorem State.reply_rbc (s : State) (tag : Nat) (st : Status) (b : ReplyBody) : (s.reply tag st b).rbc = s.rbc := by
  simp [State.reply]
@[simp] theorem State.reply_cbs (s : State) (tag : Nat) (st : Status) (b : ReplyBody) : (s.reply tag st b).cbs = s.cbs := by
  simp [State.reply]
@[simp] theorem State.reply_dc (s : State) (tag : Nat) (st : Status) (b : ReplyBody) : (s.reply tag st b).dc = s.dc := by
  simp [State.reply]
@[simp] theorem State.reply_lel (s : State) (tag : Nat) (st : Status) (b : ReplyBody) : (s.reply tag st b).lel = s.lel := by
  simp [State.reply]
@[simp] theorem State.reply_cps (s : State) (tag : Nat) (st : Status) (b : ReplyBody) : (s.reply tag st b).cps = s.cps := by
  simp [State.reply]
@[simp] theorem State.reply_free (s : State) (tag : Nat) (st : Status) (b : ReplyBody) : (s.reply tag st b).free = s.free := by
  simp [State.reply]
@[simp] theorem State.reply_agenda (s : State) (tag : Nat) (st : Status) (b : ReplyBody) : (s.reply tag st b).agenda = s.agenda := by
  simp [State.reply]
@[simp] theorem State.reply_pending (s : State) (tag : Nat) (st : Status) (b : ReplyBody) : (s.reply tag st b).pending = s.pending := by
  simp [State.reply]
@[simp] theorem State.reply_eba_banks (s : State) (tag : Nat) (st : Status) (b : ReplyBody) : (s.reply tag st b).eba.banks = s.eba.banks := by
  simp [State.reply]
@[simp] theorem State.reply_ali_taking (s : State) (tag : Nat) (st : Status) (b : ReplyBody) : (s.reply tag st b).ali.taking = s.ali.taking := by
  simp [State.reply]
@[simp] theorem State.reply_ali_guard (s : State) (tag : Nat) (st : Status) (b : ReplyBody) : (s.reply tag st b).ali.guard = s.ali.guard := by
  simp [State.reply]
@[simp] theorem State.reply_eba_attention (s : State) (tag : Nat) (st : Status) (b : ReplyBody) : (s.reply tag st b).eba.attention = s.eba.attention := by
  simp [State.reply]

@[simp] theorem State.replyOk_table (s : State) (tag : Nat) (b : ReplyBody) : (s.replyOk tag b).table = s.table := by
  simp [State.replyOk]
@[simp] theorem State.replyOk_slt (s : State) (tag : Nat) (b : ReplyBody) : (s.replyOk tag b).slt = s.slt := by
  simp [State.replyOk]
@[simp] theorem State.replyOk_esu (s : State) (tag : Nat) (b : ReplyBody) : (s.replyOk tag b).esu = s.esu := by
  simp [State.replyOk]
@[simp] theorem State.replyOk_rbc (s : State) (tag : Nat) (b : ReplyBody) : (s.replyOk tag b).rbc = s.rbc := by
  simp [State.replyOk]
@[simp] theorem State.replyOk_cbs (s : State) (tag : Nat) (b : ReplyBody) : (s.replyOk tag b).cbs = s.cbs := by
  simp [State.replyOk]
@[simp] theorem State.replyOk_dc (s : State) (tag : Nat) (b : ReplyBody) : (s.replyOk tag b).dc = s.dc := by
  simp [State.replyOk]
@[simp] theorem State.replyOk_lel (s : State) (tag : Nat) (b : ReplyBody) : (s.replyOk tag b).lel = s.lel := by
  simp [State.replyOk]
@[simp] theorem State.replyOk_cps (s : State) (tag : Nat) (b : ReplyBody) : (s.replyOk tag b).cps = s.cps := by
  simp [State.replyOk]
@[simp] theorem State.replyOk_free (s : State) (tag : Nat) (b : ReplyBody) : (s.replyOk tag b).free = s.free := by
  simp [State.replyOk]
@[simp] theorem State.replyOk_agenda (s : State) (tag : Nat) (b : ReplyBody) : (s.replyOk tag b).agenda = s.agenda := by
  simp [State.replyOk]
@[simp] theorem State.replyOk_pending (s : State) (tag : Nat) (b : ReplyBody) : (s.replyOk tag b).pending = s.pending := by
  simp [State.replyOk]
@[simp] theorem State.replyOk_eba_banks (s : State) (tag : Nat) (b : ReplyBody) : (s.replyOk tag b).eba.banks = s.eba.banks := by
  simp [State.replyOk]
@[simp] theorem State.replyOk_ali_taking (s : State) (tag : Nat) (b : ReplyBody) : (s.replyOk tag b).ali.taking = s.ali.taking := by
  simp [State.replyOk]
@[simp] theorem State.replyOk_ali_guard (s : State) (tag : Nat) (b : ReplyBody) : (s.replyOk tag b).ali.guard = s.ali.guard := by
  simp [State.replyOk]
@[simp] theorem State.replyOk_eba_attention (s : State) (tag : Nat) (b : ReplyBody) : (s.replyOk tag b).eba.attention = s.eba.attention := by
  simp [State.replyOk]

@[simp] theorem State.refuse_table (s : State) (tag : Nat) (st : Status) : (s.refuse tag st).table = s.table := by
  simp [State.refuse]
@[simp] theorem State.refuse_slt (s : State) (tag : Nat) (st : Status) : (s.refuse tag st).slt = s.slt := by
  simp [State.refuse]
@[simp] theorem State.refuse_esu (s : State) (tag : Nat) (st : Status) : (s.refuse tag st).esu = s.esu := by
  simp [State.refuse]
@[simp] theorem State.refuse_rbc (s : State) (tag : Nat) (st : Status) : (s.refuse tag st).rbc = s.rbc := by
  simp [State.refuse]
@[simp] theorem State.refuse_cbs (s : State) (tag : Nat) (st : Status) : (s.refuse tag st).cbs = s.cbs := by
  simp [State.refuse]
@[simp] theorem State.refuse_dc (s : State) (tag : Nat) (st : Status) : (s.refuse tag st).dc = s.dc := by
  simp [State.refuse]
@[simp] theorem State.refuse_lel (s : State) (tag : Nat) (st : Status) : (s.refuse tag st).lel = s.lel := by
  simp [State.refuse]
@[simp] theorem State.refuse_cps (s : State) (tag : Nat) (st : Status) : (s.refuse tag st).cps = s.cps := by
  simp [State.refuse]
@[simp] theorem State.refuse_free (s : State) (tag : Nat) (st : Status) : (s.refuse tag st).free = s.free := by
  simp [State.refuse]
@[simp] theorem State.refuse_agenda (s : State) (tag : Nat) (st : Status) : (s.refuse tag st).agenda = s.agenda := by
  simp [State.refuse]
@[simp] theorem State.refuse_pending (s : State) (tag : Nat) (st : Status) : (s.refuse tag st).pending = s.pending := by
  simp [State.refuse]
@[simp] theorem State.refuse_eba_banks (s : State) (tag : Nat) (st : Status) : (s.refuse tag st).eba.banks = s.eba.banks := by
  simp [State.refuse]
@[simp] theorem State.refuse_ali_taking (s : State) (tag : Nat) (st : Status) : (s.refuse tag st).ali.taking = s.ali.taking := by
  simp [State.refuse]
@[simp] theorem State.refuse_ali_guard (s : State) (tag : Nat) (st : Status) : (s.refuse tag st).ali.guard = s.ali.guard := by
  simp [State.refuse]
@[simp] theorem State.refuse_eba_attention (s : State) (tag : Nat) (st : Status) : (s.refuse tag st).eba.attention = s.eba.attention := by
  simp [State.refuse]

@[simp] theorem State.latch_table (s : State) (c : Attention) : (s.latch c).table = s.table := by
  unfold State.latch
  split
  · rfl
  · split <;> simp
@[simp] theorem State.latch_slt (s : State) (c : Attention) : (s.latch c).slt = s.slt := by
  unfold State.latch
  split
  · rfl
  · split <;> simp
@[simp] theorem State.latch_esu (s : State) (c : Attention) : (s.latch c).esu = s.esu := by
  unfold State.latch
  split
  · rfl
  · split <;> simp
@[simp] theorem State.latch_rbc (s : State) (c : Attention) : (s.latch c).rbc = s.rbc := by
  unfold State.latch
  split
  · rfl
  · split <;> simp
@[simp] theorem State.latch_cbs (s : State) (c : Attention) : (s.latch c).cbs = s.cbs := by
  unfold State.latch
  split
  · rfl
  · split <;> simp
@[simp] theorem State.latch_dc (s : State) (c : Attention) : (s.latch c).dc = s.dc := by
  unfold State.latch
  split
  · rfl
  · split <;> simp
@[simp] theorem State.latch_lel (s : State) (c : Attention) : (s.latch c).lel = s.lel := by
  unfold State.latch
  split
  · rfl
  · split <;> simp
@[simp] theorem State.latch_cps (s : State) (c : Attention) : (s.latch c).cps = s.cps := by
  unfold State.latch
  split
  · rfl
  · split <;> simp
@[simp] theorem State.latch_free (s : State) (c : Attention) : (s.latch c).free = s.free := by
  unfold State.latch
  split
  · rfl
  · split <;> simp
@[simp] theorem State.latch_agenda (s : State) (c : Attention) : (s.latch c).agenda = s.agenda := by
  unfold State.latch
  split
  · rfl
  · split <;> simp
@[simp] theorem State.latch_pending (s : State) (c : Attention) : (s.latch c).pending = s.pending := by
  unfold State.latch
  split
  · rfl
  · split <;> simp
@[simp] theorem State.latch_eba_banks (s : State) (c : Attention) : (s.latch c).eba.banks = s.eba.banks := by
  unfold State.latch
  split
  · rfl
  · split <;> simp
@[simp] theorem State.latch_ali_taking (s : State) (c : Attention) : (s.latch c).ali.taking = s.ali.taking := by
  unfold State.latch
  split
  · rfl
  · split <;> simp
@[simp] theorem State.latch_ali_guard (s : State) (c : Attention) : (s.latch c).ali.guard = s.ali.guard := by
  unfold State.latch
  split
  · rfl
  · split <;> simp

/-- With the lanes busy, a frame that is handed joins the queue's tail (R192). -/
theorem State.handFrame_busy (s : State) (f g : Frame) (h : s.ali.sending = some g) :
    s.handFrame f = { s with ali := { s.ali with queue := s.ali.queue ++ [f] } } := by
  simp [State.handFrame, State.ifIdleChoose, h]

/-- With the lanes idle, nothing queued, no NOTICE waiting and no RESTART queued, a frame that is handed
begins its transmission (R192). -/
theorem State.handFrame_idle (s : State) (f : Frame) (h : s.ali.sending = none) (hq : s.ali.queue = [])
    (hn : s.eba.noticeWaiting = false) (hr : s.ali.restart = .none) :
    s.handFrame f = { s with ali := { s.ali with sending := some f } } := by
  cases s with
  | mk ali table slt esu rbc cbs dc lel cps eba free agenda pending =>
    cases ali
    simp_all [State.handFrame, State.ifIdleChoose, State.chooseFrame, State.sendOldest]

/-- The bit of a class is the bit of its number. -/
theorem Attention.bit_getLsbD (c d : Attention) : c.bit.getLsbD d.number = decide (c = d) := by
  cases c <;> cases d <;> decide

/-- A latched class stays latched when its bit is set again. -/
theorem Attention.or_bit (x : Byte) (c : Attention) (h : x.getLsbD c.number = true) : x ||| c.bit = x := by
  cases c <;> simp only [Attention.number] at h <;> revert x <;> decide

/-- A latch sets the class's bit and no other (R180). -/
@[simp] theorem State.latch_attention (s : State) (c : Attention) :
    (s.latch c).eba.attention = s.eba.attention ||| c.bit := by
  unfold State.latch
  split
  · next h => exact (Attention.or_bit _ _ h).symm
  · split <;> simp

/-- A class that is latched already is latched again without effect (R180). -/
theorem State.latch_latched (s : State) (c : Attention) (h : s.eba.attention.getLsbD c.number = true) :
    s.latch c = s := by
  simp [State.latch, h]

@[simp] theorem State.thresholdReached_table (s : State) (b : BankNo) (a : Bool) :
    (s.thresholdReached b a).table = s.table := by
  unfold State.thresholdReached
  split
  · split <;> simp
  · simp
@[simp] theorem State.takeError_table (s : State) (b : BankNo) (e : ErrorFields) :
    (s.takeError b e).table = s.table := by
  simp only [State.takeError]
  split <;> split <;> simp
@[simp] theorem State.thresholdReached_slt (s : State) (b : BankNo) (a : Bool) :
    (s.thresholdReached b a).slt = s.slt := by
  unfold State.thresholdReached
  split
  · split <;> simp
  · simp
@[simp] theorem State.takeError_slt (s : State) (b : BankNo) (e : ErrorFields) :
    (s.takeError b e).slt = s.slt := by
  simp only [State.takeError]
  split <;> split <;> simp
@[simp] theorem State.thresholdReached_esu (s : State) (b : BankNo) (a : Bool) :
    (s.thresholdReached b a).esu = s.esu := by
  unfold State.thresholdReached
  split
  · split <;> simp
  · simp
@[simp] theorem State.takeError_esu (s : State) (b : BankNo) (e : ErrorFields) :
    (s.takeError b e).esu = s.esu := by
  simp only [State.takeError]
  split <;> split <;> simp
@[simp] theorem State.thresholdReached_rbc (s : State) (b : BankNo) (a : Bool) :
    (s.thresholdReached b a).rbc = s.rbc := by
  unfold State.thresholdReached
  split
  · split <;> simp
  · simp
@[simp] theorem State.takeError_rbc (s : State) (b : BankNo) (e : ErrorFields) :
    (s.takeError b e).rbc = s.rbc := by
  simp only [State.takeError]
  split <;> split <;> simp
@[simp] theorem State.thresholdReached_cbs (s : State) (b : BankNo) (a : Bool) :
    (s.thresholdReached b a).cbs = s.cbs := by
  unfold State.thresholdReached
  split
  · split <;> simp
  · simp
@[simp] theorem State.takeError_cbs (s : State) (b : BankNo) (e : ErrorFields) :
    (s.takeError b e).cbs = s.cbs := by
  simp only [State.takeError]
  split <;> split <;> simp
@[simp] theorem State.thresholdReached_dc (s : State) (b : BankNo) (a : Bool) :
    (s.thresholdReached b a).dc = s.dc := by
  unfold State.thresholdReached
  split
  · split <;> simp
  · simp
@[simp] theorem State.takeError_dc (s : State) (b : BankNo) (e : ErrorFields) :
    (s.takeError b e).dc = s.dc := by
  simp only [State.takeError]
  split <;> split <;> simp
@[simp] theorem State.thresholdReached_lel (s : State) (b : BankNo) (a : Bool) :
    (s.thresholdReached b a).lel = s.lel := by
  unfold State.thresholdReached
  split
  · split <;> simp
  · simp
@[simp] theorem State.takeError_lel (s : State) (b : BankNo) (e : ErrorFields) :
    (s.takeError b e).lel = s.lel := by
  simp only [State.takeError]
  split <;> split <;> simp
@[simp] theorem State.thresholdReached_cps (s : State) (b : BankNo) (a : Bool) :
    (s.thresholdReached b a).cps = s.cps := by
  unfold State.thresholdReached
  split
  · split <;> simp
  · simp
@[simp] theorem State.takeError_cps (s : State) (b : BankNo) (e : ErrorFields) :
    (s.takeError b e).cps = s.cps := by
  simp only [State.takeError]
  split <;> split <;> simp
@[simp] theorem State.thresholdReached_free (s : State) (b : BankNo) (a : Bool) :
    (s.thresholdReached b a).free = s.free := by
  unfold State.thresholdReached
  split
  · split <;> simp
  · simp
@[simp] theorem State.takeError_free (s : State) (b : BankNo) (e : ErrorFields) :
    (s.takeError b e).free = s.free := by
  simp only [State.takeError]
  split <;> split <;> simp
@[simp] theorem State.thresholdReached_pending (s : State) (b : BankNo) (a : Bool) :
    (s.thresholdReached b a).pending = s.pending := by
  unfold State.thresholdReached
  split
  · split <;> simp
  · simp
@[simp] theorem State.takeError_pending (s : State) (b : BankNo) (e : ErrorFields) :
    (s.takeError b e).pending = s.pending := by
  simp only [State.takeError]
  split <;> split <;> simp
@[simp] theorem State.thresholdReached_ali_taking (s : State) (b : BankNo) (a : Bool) :
    (s.thresholdReached b a).ali.taking = s.ali.taking := by
  unfold State.thresholdReached
  split
  · split <;> simp
  · simp
@[simp] theorem State.takeError_ali_taking (s : State) (b : BankNo) (e : ErrorFields) :
    (s.takeError b e).ali.taking = s.ali.taking := by
  simp only [State.takeError]
  split <;> split <;> simp
@[simp] theorem State.thresholdReached_ali_guard (s : State) (b : BankNo) (a : Bool) :
    (s.thresholdReached b a).ali.guard = s.ali.guard := by
  unfold State.thresholdReached
  split
  · split <;> simp
  · simp
@[simp] theorem State.takeError_ali_guard (s : State) (b : BankNo) (e : ErrorFields) :
    (s.takeError b e).ali.guard = s.ali.guard := by
  simp only [State.takeError]
  split <;> split <;> simp

@[simp] theorem State.thresholdReached_banks (s : State) (b : BankNo) (a : Bool) :
    (s.thresholdReached b a).eba.banks = s.eba.banks := by
  unfold State.thresholdReached
  split
  · split <;> simp
  · simp

/-- The banks after an error: the bank it reaches takes it whole, and no other changes (R175). -/
@[simp] theorem State.takeError_banks (s : State) (b : BankNo) (e : ErrorFields) :
    (s.takeError b e).eba.banks = s.eba.banks.set b ((s.eba.banks.get b).capture e).tally := by
  simp only [State.takeError]
  split <;> split <;> simp

/-- An error of a bank that is no channel bank, or whose auto-fail enable is clear, sets off no work. -/
theorem State.takeError_agenda (s : State) (b : BankNo) (e : ErrorFields)
    (h : bankChannel b = none ∨ (s.eba.banks.get b).autoFail = false) : (s.takeError b e).agenda = s.agenda := by
  simp only [State.takeError, State.thresholdReached]
  rcases h with h | h <;> simp only [h] <;> split <;> split <;> (try split) <;> simp

end Sys2Proof.Machine
end

