-- ==== Sys2Proof/Laws/Lost.lean ====
section
/-! SUPPORT. The Lost Extent List's shared operations, once for all (spec/08): the pieces of an addition (R148,
step 1), the entry that placing a piece makes (R148, steps 2 and 3), and the runs handed for trimming (R110). -/

namespace Sys2Proof.Machine

/-- Runs of at least one block each, ascending and never touching, that hold together the blocks of P. -/
def BlockRuns (ps : List (Nat × Nat)) (P : Nat → Prop) : Prop :=
  ps.Pairwise (fun a b => a.1 + a.2 < b.1) ∧ (∀ p ∈ ps, 0 < p.2) ∧ ∀ m, (∃ p ∈ ps, p.1 ≤ m ∧ m < p.1 + p.2) ↔ P m

/-- The same runs hold the blocks of an equivalent condition. -/
theorem BlockRuns.congr {ps P Q} (h : BlockRuns ps P) (hq : ∀ m, P m ↔ Q m) : BlockRuns ps Q :=
  ⟨h.1, h.2.1, fun m => (h.2.2 m).trans (hq m)⟩

/-- What lies outside an entry of one run: runs within it, of its blocks that the entry does not list. -/
theorem LostEntry.outside_runs (e : LostEntry) (he : 1 ≤ e.count) (run : Nat × Nat) (hr : 0 < run.2) :
    BlockRuns (e.outside run)
      (fun m => (run.1 ≤ m ∧ m < run.1 + run.2) ∧ ¬(e.first ≤ m ∧ m < e.first + e.count)) ∧
    ∀ p ∈ e.outside run, run.1 ≤ p.1 ∧ p.1 + p.2 ≤ run.1 + run.2 := by
  obtain ⟨a, n⟩ := run
  simp only at hr
  unfold LostEntry.outside LostEntry.stop BlockRuns
  simp only
  by_cases h1 : a < e.first <;> by_cases h2 : e.first + e.count < a + n <;> simp [h1, h2]
  · refine ⟨⟨by omega, by omega, fun m => ?_⟩, by omega⟩
    omega
  · refine ⟨⟨by omega, fun m => ?_⟩, by omega⟩
    constructor
    · intro h; omega
    · intro h; omega
  · refine ⟨⟨by omega, fun m => ?_⟩, by omega⟩
    constructor
    · intro h; omega
    · intro h; omega
  · intro m; omega

/-- The same of several runs. -/
theorem runs_flatMap_outside (e : LostEntry) (he : 1 ≤ e.count) (ps : List (Nat × Nat)) (P) (h : BlockRuns ps P) :
   BlockRuns (ps.flatMap e.outside) (fun m => P m ∧ ¬ (e.first ≤ m ∧ m < e.first + e.count)) := by
  obtain ⟨h1, h2, h3⟩ := h
  refine ⟨?_, ?_, ?_⟩
  · rw [List.pairwise_flatMap]
    refine ⟨fun p hp => (LostEntry.outside_runs e he p (h2 p hp)).1.1, ?_⟩
    have : ps.Pairwise (fun a b => a.1 + a.2 < b.1 ∧ a ∈ ps ∧ b ∈ ps) := by
      refine List.Pairwise.imp_of_mem ?_ h1
      intro a b ha hb hh; exact ⟨hh, ha, hb⟩
    refine this.imp ?_
    rintro a b ⟨hab, ha, hb⟩ p hp q hq
    have := (LostEntry.outside_runs e he a (h2 a ha)).2 p hp
    have := (LostEntry.outside_runs e he b (h2 b hb)).2 q hq
    omega
  · intro q hq
    rw [List.mem_flatMap] at hq
    obtain ⟨p, hp, hq⟩ := hq
    exact (LostEntry.outside_runs e he p (h2 p hp)).1.2.1 q hq
  · intro m
    show _ ↔ P m ∧ _
    rw [← h3]
    constructor
    · rintro ⟨q, hq, hm⟩
      rw [List.mem_flatMap] at hq
      obtain ⟨p, hp, hq⟩ := hq
      have := ((LostEntry.outside_runs e he p (h2 p hp)).1.2.2 m).mp ⟨q, hq, hm⟩
      exact ⟨⟨p, hp, this.1⟩, this.2⟩
    · rintro ⟨⟨p, hp, hm⟩, hn⟩
      obtain ⟨q, hq, hqm⟩ := ((LostEntry.outside_runs e he p (h2 p hp)).1.2.2 m).mpr ⟨hm, hn⟩
      exact ⟨q, List.mem_flatMap.mpr ⟨p, hp, hq⟩, hqm⟩

/-- The same of several runs and entries. -/
theorem runs_foldl_outside (es : List LostEntry) (hc : ∀ e ∈ es, 1 ≤ e.count) (ps P) (h : BlockRuns ps P) :
    BlockRuns (es.foldl (fun runs e => runs.flatMap e.outside) ps)
      (fun m => P m ∧ ∀ e ∈ es, ¬(e.first ≤ m ∧ m < e.first + e.count)) := by
  induction es generalizing ps P with
  | nil => simpa using h
  | cons e es ih =>
    simp only [List.foldl_cons]
    refine (ih (fun e he => hc e (List.mem_cons_of_mem _ he)) _ _
      (runs_flatMap_outside e (hc e List.mem_cons_self) ps P h)).congr ?_
    intro m; simp [and_assoc]

/-- The pieces of an addition are the runs of its blocks that the list does not name (R148, step 1). -/
theorem lostPieces_runs (es : List LostEntry) (hc : ∀ e ∈ es, 1 ≤ e.count) (x first n : Nat) (hn : 1 ≤ n)
    (lim : Nat) :
    BlockRuns (lostPieces es x first n) (fun m => first ≤ m ∧ m < first + n ∧ LostList.listed ⟨es, lim⟩ x m = false) := by
  unfold lostPieces
  rw [if_neg (by omega)]
  refine (runs_foldl_outside _ (fun e he => hc e (List.mem_filter.mp he).1) [(first, n)]
    (fun m => first ≤ m ∧ m < first + n) ?_).congr ?_
  · exact ⟨by simp, by simp; omega, by simp⟩
  · intro m
    simp only [LostList.listed, List.any_eq_false]
    constructor
    · rintro ⟨⟨a, b⟩, c⟩
      refine ⟨a, b, fun e he => ?_⟩
      simp
      intro hp h1
      have := c e (List.mem_filter.mpr ⟨he, by simpa using hp⟩)
      omega
    · rintro ⟨a, b, c⟩
      refine ⟨⟨a, b⟩, fun e he h => ?_⟩
      have hm := List.mem_filter.mp he
      apply c e hm.1
      simp at hm
      simp [hm.2, h]

/-- The test of R148, step 2, in words. -/
theorem LostEntry.joins_iff (a b : LostEntry) : a.joins b = true ↔ a.Joins b := by
  simp only [LostEntry.joins, LostEntry.Joins, and_assoc, Bool.and_eq_true, beq_iff_eq, decide_eq_true_eq]
  rfl

/-- An entry in front of the rest is joined to its successor or stands before it. -/
theorem joinNext_cases (e1 : LostEntry) (high : List LostEntry) :
    ((∃ a rest, high = a :: rest ∧ e1.Joins a ∧ joinNext e1 high = { e1 with count := e1.count + a.count } :: rest) ∨
      (joinNext e1 high = e1 :: high ∧ ∀ a rest, high = a :: rest → ¬e1.Joins a)) := by
  cases high with
  | nil => right; simp [joinNext]
  | cons a rest =>
    by_cases h : e1.Joins a
    · left; exact ⟨a, rest, rfl, h, by simp [joinNext, (LostEntry.joins_iff _ _).mpr h]⟩
    · right; refine ⟨by simp [joinNext, mt (LostEntry.joins_iff _ _).mp h], ?_⟩
      rintro _ _ ⟨⟩; exact h

/-- A piece that no entry overlaps is placed as R148, steps 2 and 3, say. -/
theorem placeEntry_placed (e : LostEntry) (he : 1 ≤ e.count) (es : List LostEntry) (hs : es.Pairwise LostEntry.Before)
    (hc : ∀ a ∈ es, 1 ≤ a.count)
    (hu : ∀ a ∈ es, a.Before e ∨ e.Before a) : e.PlacedIn es (placeEntry e es) := by
  induction es with
  | nil => exact ⟨[], [], [], e, by simp, by simp, by simp, .inr ⟨rfl, rfl, by simp⟩, .inr ⟨rfl, by simp⟩⟩
  | cons a es ih =>
    rw [List.pairwise_cons] at hs
    simp only [placeEntry]
    have hac := hc a List.mem_cons_self
    by_cases hj : a.Joins e
    · rw [if_pos ((LostEntry.joins_iff _ _).mpr hj)]
      obtain ⟨j1, j2, j3, j4⟩ := hj
      unfold LostEntry.stop at j3
      have hab : a.Before e := .inr ⟨j1, by unfold LostEntry.stop; omega⟩
      have hhi : ∀ b ∈ es, e.Before b := by
        intro b hb
        rcases hu b (List.mem_cons_of_mem _ hb) with h | h
        · exfalso
          have hbc := hc b (List.mem_cons_of_mem _ hb)
          have := hs.1 b hb
          unfold LostEntry.Before LostEntry.stop at this h
          omega
        · exact h
      refine ⟨[a], es, [], { a with count := a.count + e.count }, rfl, by simpa using hab, hhi,
        .inl ⟨a, rfl, ⟨j1, j2, by unfold LostEntry.stop; omega, j4⟩, rfl⟩, ?_⟩
      rcases joinNext_cases { a with count := a.count + e.count } es with ⟨b, rest, h1, h2, h3⟩ | ⟨h1, h2⟩
      · left; exact ⟨b, rest, h1, h2, by simpa using h3⟩
      · right; exact ⟨by simpa using h1, h2⟩
    · rw [if_neg (mt (LostEntry.joins_iff _ _).mp hj)]
      by_cases hp : a.precedes e = true
      · rw [if_pos hp]
        have hab : a.Before e := by
          rcases hu a List.mem_cons_self with h | h
          · exact h
          · exfalso
            simp [LostEntry.precedes] at hp
            unfold LostEntry.Before LostEntry.stop at h
            omega
        obtain ⟨low, high, kept, e1, h1, h2, h3, h4, h5⟩ :=
          ih hs.2 (fun b hb => hc b (List.mem_cons_of_mem _ hb)) (fun b hb => hu b (List.mem_cons_of_mem _ hb))
        refine ⟨a :: low, high, a :: kept, e1, by simp [h1], ?_, h3, ?_, ?_⟩
        · intro b hb; rcases List.mem_cons.mp hb with rfl | hb
          · exact hab
          · exact h2 b hb
        · rcases h4 with ⟨b, q1, q2, q3⟩ | ⟨q1, q2, q3⟩
          · left; exact ⟨b, by simp [q1], q2, q3⟩
          · right; refine ⟨by simp [q1], q2, ?_⟩
            intro init b hb
            cases init with
            | nil => simp at hb; obtain ⟨rfl, _⟩ := hb; exact hj
            | cons c init => simp at hb; exact q3 init b hb.2
        · rcases h5 with ⟨b, rest, q1, q2, q3⟩ | ⟨q1, q2⟩
          · left; exact ⟨b, rest, q1, q2, by simp [q3]⟩
          · right; exact ⟨by simp [q1], q2⟩
      · rw [if_neg hp]
        have hea : e.Before a := by
          rcases hu a List.mem_cons_self with h | h
          · exfalso; apply hp
            simp [LostEntry.precedes]
            unfold LostEntry.Before LostEntry.stop at h
            omega
          · exact h
        have hhi : ∀ b ∈ a :: es, e.Before b := by
          intro b hb
          rcases List.mem_cons.mp hb with rfl | hb
          · exact hea
          · have := hs.1 b hb
            unfold LostEntry.Before LostEntry.stop at this hea ⊢
            omega
        refine ⟨[], a :: es, [], e, rfl, by simp, hhi, .inr ⟨rfl, rfl, by simp⟩, ?_⟩
        rcases joinNext_cases e (a :: es) with ⟨b, rest, h1, h2, h3⟩ | ⟨h1, h2⟩
        · left; exact ⟨b, rest, h1, h2, by simpa using h3⟩
        · right; exact ⟨by simpa using h1, h2⟩

/-- The runs handed for trimming hold the marked blocks, and nothing else (R110, R126). -/
theorem markedRuns_runs (first : Nat) (flags : List Bool) :
    BlockRuns (markedRuns first flags) (fun m => first ≤ m ∧ flags[m - first]? = some true) ∧
      ∀ run ∈ markedRuns first flags, first ≤ run.1 := by
  suffices h : ∀ runs : List (Nat × Nat), runs = markedRuns first flags →
      runs.Pairwise (fun a b => a.1 + a.2 < b.1) ∧ (∀ run ∈ runs, 0 < run.2) ∧ (∀ run ∈ runs, first ≤ run.1) ∧
      (∀ m, (∃ run ∈ runs, run.1 ≤ m ∧ m < run.1 + run.2) ↔ first ≤ m ∧ flags[m - first]? = some true) by
    obtain ⟨h1, h2, h3, h4⟩ := h _ rfl
    exact ⟨⟨h1, h2, h4⟩, h3⟩
  induction flags generalizing first with
  | nil => rintro _ rfl; simp [markedRuns]
  | cons b fs ih =>
    rintro runs rfl
    have := ih (first+1) _ rfl
    obtain ⟨hp, h0, hf, hm⟩ := this
    have idx : ∀ m, first + 1 ≤ m → (b :: fs)[m - first]? = fs[m - (first+1)]? := by
      intro m hm; rw [show m - first = (m - (first+1)) + 1 by omega]; rfl
    cases b with
    | false =>
      simp only [markedRuns]
      refine ⟨hp, h0, fun r hr => by have := hf r hr; omega, ?_⟩
      intro m; rw [hm m]
      constructor
      · rintro ⟨a, b⟩; exact ⟨by omega, by rw [idx m a]; exact b⟩
      · rintro ⟨a, b⟩
        have : first + 1 ≤ m := by
          by_contra hlt
          have : m = first := by omega
          subst this; simp at b
        exact ⟨this, by rw [idx m this] at b; exact b⟩
    | true =>
      simp only [markedRuns]
      cases hr : markedRuns (first+1) fs with
      | nil =>
        simp only [hr] at hm
        refine ⟨by simp, by simp, by simp, fun m => ?_⟩
        have hn : ¬(first + 1 ≤ m ∧ fs[m - (first + 1)]? = some true) := fun h => by simpa using (hm m).mpr h
        simp only [List.mem_singleton, exists_eq_left]
        constructor
        · rintro ⟨a, b⟩
          have : m = first := by omega
          subst this; simp
        · rintro ⟨a, b⟩
          refine ⟨a, ?_⟩
          by_contra hlt
          rw [idx m (by omega)] at b
          exact hn ⟨by omega, b⟩
      | cons r rest =>
        obtain ⟨a, n⟩ := r
        simp only [hr] at hm hp h0 hf
        have ha := hf _ (List.mem_cons_self)
        have hn := h0 _ (List.mem_cons_self)
        rw [List.pairwise_cons] at hp
        simp only at ha hn
        by_cases hae : a = first + 1
        · simp only [hae, if_true]
          refine ⟨?_, ?_, ?_, ?_⟩
          · rw [List.pairwise_cons]; refine ⟨fun r hr => ?_, hp.2⟩
            have := hp.1 r hr; simp only at this ⊢; omega
          · intro r hr; rcases List.mem_cons.mp hr with rfl | h
            · simp
            · exact h0 _ (List.mem_cons_of_mem _ h)
          · intro r hr; rcases List.mem_cons.mp hr with rfl | h
            · simp
            · have := hf _ (List.mem_cons_of_mem _ h); omega
          · intro m
            have := hm m
            subst hae
            simp only [List.exists_mem_cons_iff] at this ⊢
            by_cases hmf : m = first
            · subst hmf; simp
            · constructor
              · intro hx
                have hx' : first + 1 ≤ m ∧ fs[m - (first+1)]? = some true := by
                  rw [← this]
                  rcases hx with hx | hx
                  · left; omega
                  · right; exact hx
                exact ⟨by omega, by rw [idx m hx'.1]; exact hx'.2⟩
              · rintro ⟨x, y⟩
                rw [idx m (by omega)] at y
                rcases this.mpr ⟨by omega, y⟩ with h | h
                · left; omega
                · right; exact h
        · simp only [hae, if_false]
          refine ⟨?_, ?_, ?_, ?_⟩
          · rw [List.pairwise_cons]; refine ⟨fun r hr => ?_, List.pairwise_cons.mpr hp⟩
            rcases List.mem_cons.mp hr with rfl | h
            · simp only; omega
            · have := hp.1 r h; simp only at this ⊢; omega
          · intro r hr; rcases List.mem_cons.mp hr with rfl | h
            · simp
            · exact h0 _ h
          · intro r hr; rcases List.mem_cons.mp hr with rfl | h
            · simp
            · have := hf _ h; omega
          · intro m
            have := hm m
            rw [List.exists_mem_cons_iff, this]
            by_cases hmf : m = first
            · subst hmf; simp
            · constructor
              · rintro (h | ⟨h, k⟩)
                · simp only at h; omega
                · exact ⟨by omega, by rw [idx m h]; exact k⟩
              · rintro ⟨x, y⟩
                rw [idx m (by omega)] at y
                right; exact ⟨by omega, y⟩

end Sys2Proof.Machine
end

