-- ==== Sys2Proof/Laws/Parity.lean ====
section
/-! SUPPORT. The arithmetic on whole blocks is the arithmetic on each of their bytes (spec/01, R11; log 10). -/

namespace Sys2Proof.Machine

/-- The number whose n bytes are all 1. -/
theorem repunit_succ (n : Nat) : (2 ^ (8 * (n + 1)) - 1) / 255 = 256 * ((2 ^ (8 * n) - 1) / 255) + 1 := by
  have key : ∀ m : Nat, ∃ q, 2 ^ (8 * m) = 255 * q + 1 := by
    intro m
    induction m with
    | zero => exact ⟨0, rfl⟩
    | succ m ih =>
      obtain ⟨q, hq⟩ := ih
      refine ⟨256 * q + 1, ?_⟩
      rw [show 8 * (m + 1) = 8 * m + 8 by omega, Nat.pow_add, hq]
      omega
  obtain ⟨q, hq⟩ := key n
  rw [show 8 * (n + 1) = 8 * n + 8 by omega, Nat.pow_add, hq]
  omega

/-- Bit j of byte i of a number whose bytes are all c. -/
theorem testBit_fill (c : Nat) (hc : c < 256) (n i j : Nat) (hi : i < n) (hj : j < 8) :
    (c * ((2 ^ (8 * n) - 1) / 255)).testBit (8 * i + j) = c.testBit j := by
  induction n generalizing i with
  | zero => omega
  | succ n ih =>
    rw [repunit_succ, show c * (256 * ((2 ^ (8 * n) - 1) / 255) + 1)
      = 2 ^ 8 * (c * ((2 ^ (8 * n) - 1) / 255)) + c by ring]
    rw [Nat.testBit_two_pow_mul_add _ (by simpa using hc)]
    cases i with
    | zero => simp [hj]
    | succ i =>
      have h1 : ¬ 8 * (i + 1) + j < 8 := by omega
      have h2 : 8 * (i + 1) + j - 8 = 8 * i + j := by omega
      rw [if_neg h1, h2]
      exact ih i (by omega)

/-- Bit j of byte i of the block whose every byte is c. -/
theorem Block.fill_bit (c : Byte) (i j : Nat) (hi : i < 4096) (hj : j < 8) :
    (Block.fill c).getLsbD (8 * i + j) = c.getLsbD j := by
  have h : ∀ n, n = 8 * 4096 → (c.toNat * ((2 ^ n - 1) / 255)).testBit (8 * i + j) = c.toNat.testBit j := by
    rintro _ rfl
    exact testBit_fill c.toNat c.isLt 4096 i j hi hj
  have hlt : 8 * i + j < blockBits := by
    have : blockBits = 32768 := rfl
    omega
  unfold Block.fill
  rw [BitVec.getLsbD_ofNat, h blockBits rfl, decide_eq_true hlt, Bool.true_and]
  rfl

/-- Bit j of byte i of a block. -/
theorem Block.byte_bit (b : Block) (i j : Nat) (hj : j < 8) : (b.byte i).getLsbD j = b.getLsbD (8 * i + j) := by
  simp [Block.byte, hj]

/-- The sum of two blocks is the sum of each of their bytes (R11). -/
theorem Block.xor_byte (a b : Block) (i : Nat) : Block.byte (a ^^^ b) i = a.byte i ^^^ b.byte i := by
  apply BitVec.eq_of_getLsbD_eq
  intro j hj
  rw [Block.byte_bit _ _ _ hj]
  simp [Block.byte_bit _ _ _ hj]

/-- The bits of the double of a byte: moved up one place, with the high bit combined into bits 0, 2, 3 and 4. -/
theorem gfDouble_bits (x : Byte) : ∀ j < 8, (gfDouble x).getLsbD j =
    ((decide (0 < j) && x.getLsbD (j - 1)) ^^ (decide (j = 0 ∨ j = 2 ∨ j = 3 ∨ j = 4) && x.getLsbD 7)) := by
  revert x
  decide +kernel

/-- Doubling a block doubles each of its bytes (R11). -/
theorem Block.double_byte (b : Block) (i : Nat) (hi : i < 4096) : (Block.double b).byte i = gfDouble (b.byte i) := by
  have hn : blockBits = 32768 := rfl
  have fill : ∀ (c : Byte) (p k r : Nat), p = 8 * k + r → r < 8 → k < 4096 →
      (Block.fill c).getLsbD p = c.getLsbD r := by
    rintro c p k r rfl hr hk
    exact Block.fill_bit c k r hk hr
  have high : ∀ p k r : Nat, p = 8 * k + r → r < 8 → k < 4096 →
      ((b >>> 7) &&& Block.fill 1).getLsbD p = (decide (r = 0) && b.getLsbD (p + 7)) := by
    intro p k r hp hr hk
    rw [BitVec.getLsbD_and, BitVec.getLsbD_ushiftRight, fill 1 p k r hp hr hk, Nat.add_comm]
    have : ∀ r < 8, (1 : Byte).getLsbD r = decide (r = 0) := by decide
    rw [this r hr, Bool.and_comm]
  have low : ∀ p k r : Nat, p = 8 * k + r → r < 8 → k < 4096 →
      (b &&& Block.fill 0x7F).getLsbD p = (decide (r < 7) && b.getLsbD p) := by
    intro p k r hp hr hk
    rw [BitVec.getLsbD_and, fill 0x7F p k r hp hr hk]
    have : ∀ r < 8, (0x7F : Byte).getLsbD r = decide (r < 7) := by decide
    rw [this r hr, Bool.and_comm]
  apply BitVec.eq_of_getLsbD_eq
  intro j hj
  rw [Block.byte_bit _ _ _ hj, gfDouble_bits _ j hj, Block.byte_bit _ _ _ (by omega), Block.byte_bit _ _ _ (by omega)]
  have hlt : 8 * i + j < blockBits := by omega
  simp only [Block.double, BitVec.getLsbD_xor, BitVec.getLsbD_shiftLeft, decide_eq_true hlt, Bool.true_and]
  have moved : ∀ s, 0 < s → s < 8 →
      (!decide (8 * i + j < s) && ((b >>> 7) &&& Block.fill 1).getLsbD (8 * i + j - s)) =
        (decide (j = s) && b.getLsbD (8 * i + 7)) := by
    intro s h0 hs
    by_cases h1 : s ≤ j
    · rw [high _ i (j - s) (by omega) (by omega) hi, decide_eq_false (by omega : ¬ 8 * i + j < s)]
      by_cases h2 : j = s
      · subst h2
        simp
      · rw [decide_eq_false h2, decide_eq_false (by omega : ¬ j - s = 0)]
        rfl
    · rw [decide_eq_false (by omega : ¬ j = s)]
      by_cases h2 : 8 * i + j < s
      · rw [decide_eq_true h2]
        rfl
      · rw [high _ (i - 1) (8 + j - s) (by omega) (by omega) (by omega),
          decide_eq_false (by omega : ¬ 8 + j - s = 0)]
        simp
  have first : (!decide (8 * i + j < 1) && (b &&& Block.fill 0x7F).getLsbD (8 * i + j - 1)) =
      (decide (0 < j) && b.getLsbD (8 * i + (j - 1))) := by
    by_cases h1 : 0 < j
    · rw [low _ i (j - 1) (by omega) (by omega) hi, decide_eq_false (by omega : ¬ 8 * i + j < 1),
        decide_eq_true (by omega : j - 1 < 7), decide_eq_true h1, show 8 * i + j - 1 = 8 * i + (j - 1) by omega]
      rfl
    · rw [decide_eq_false h1]
      by_cases h2 : 8 * i + j < 1
      · rw [decide_eq_true h2]
        rfl
      · rw [low _ (i - 1) 7 (by omega) (by omega) (by omega)]
        simp
  have zero : ((b >>> 7) &&& Block.fill 1).getLsbD (8 * i + j) = (decide (j = 0) && b.getLsbD (8 * i + 7)) := by
    rw [high _ i j rfl hj hi]
    by_cases h1 : j = 0
    · subst h1
      rfl
    · rw [decide_eq_false h1]
      rfl
  rw [first, zero, moved 2 (by omega) (by omega), moved 3 (by omega) (by omega), moved 4 (by omega) (by omega)]
  clear first zero moved high low fill
  generalize b.getLsbD (8 * i + (j - 1)) = u
  generalize b.getLsbD (8 * i + 7) = v
  clear hlt hn
  revert u v
  interval_cases j <;> decide

/-- A product of a block is the product of each of its bytes (R11). -/
theorem Block.mul_byte (c : Byte) (b : Block) (i : Nat) (hi : i < 4096) :
    (Block.mul c b).byte i = gfMul (b.byte i) c := by
  have pow : ∀ k, (Block.pow k b).byte i = gfPow k (b.byte i) := by
    intro k
    induction k with
    | zero => rfl
    | succ k ih => rw [Block.pow, gfPow, Block.double_byte _ i hi, ih]
  have fold : ∀ (ks : List Nat) (x : Block) (y : Byte), x.byte i = y →
      (ks.foldl (fun acc k => if c.getLsbD k then acc ^^^ Block.pow k b else acc) x).byte i =
        ks.foldl (fun acc k => if c.getLsbD k then acc ^^^ gfPow k (b.byte i) else acc) y := by
    intro ks
    induction ks with
    | nil => exact fun x y h => h
    | cons k ks ih =>
      intro x y h
      apply ih
      by_cases hk : c.getLsbD k = true
      · simp only [hk, if_true, Block.xor_byte, h, pow]
      · simp only [hk, if_false, Bool.false_eq_true, h]
  apply fold
  apply BitVec.eq_of_getLsbD_eq
  intro j hj
  rw [Block.byte_bit _ _ _ hj]
  simp [Block.zero]

end Sys2Proof.Machine
end

