-- ==== Sys2Proof/Laws/PerInstr.lean ====
section
/-! SUPPORT. What holds of every command as syntax: the frame a host sends for it, where there is one, is a
REQUEST or a DATA frame of at least eight bytes (spec/11, R186, Table 11-1). -/

namespace Sys2Proof.Laws.HostFramed

open Sys2Proof.Machine

/-- A command's frame, if it has one, is long enough to carry a header and a CRC and has a kind that a host
sends. -/
def Statement (i : Instr) : Prop :=
  ∀ bytes, hostFrame i = some bytes → 8 ≤ bytes.length ∧ (bytes.head? = some 0x01 ∨ bytes.head? = some 0x03)

/-- A frame is a kind, a header of five bytes, a body and two bytes of CRC. -/
theorem frame_shape (kind tag code : Nat) (body : List Byte) :
    8 ≤ (frameBytes kind tag code body).length ∧
      (frameBytes kind tag code body).head? = some (BitVec.ofNat 8 kind) := by
  simp [frameBytes, bytesOf]

/-- A command that a host sends in a REQUEST frame. -/
theorem of_request {i : Instr} {tag code : Nat} {body : List Byte} (h : hostFrame i = requestFrame tag code body) :
    Statement i := by
  intro bytes hb
  rw [h] at hb
  cases hb
  exact ⟨(frame_shape _ _ _ _).1, Or.inl (frame_shape _ _ _ _).2⟩

/-- A command that no frame brings. -/
theorem of_event {i : Instr} (h : hostFrame i = none) : Statement i := by
  intro bytes hb
  rw [h] at hb
  cases hb

theorem coldStart (presence : BitVec 12) (left : PowerLeft) : Statement (.coldStart presence left) := of_event rfl
theorem checkpointScanEnd : Statement .checkpointScanEnd := of_event rfl
theorem frameDiscarded (reason : DiscardReason) : Statement (.frameDiscarded reason) := of_event rfl
theorem unknownRequest (tag code : Nat) : Statement (.unknownRequest tag code) := of_event rfl
theorem data (tag index : Nat) (block : Option Block) : Statement (.data tag index block) := by
  intro bytes hb
  cases hb
  exact ⟨(frame_shape _ _ _ _).1, Or.inr (frame_shape _ _ _ _).2⟩
theorem frameTransmitted : Statement .frameTransmitted := of_event rfl
theorem identify (tag : Nat) : Statement (.identify tag) := of_request rfl
theorem defineArray (tag w k b0 s : Nat) (entries : List PositionEntry)
    : Statement (.defineArray tag w k b0 s entries) := of_request rfl
theorem failMember (tag position : Nat) : Statement (.failMember tag position) := of_request rfl
theorem assignSpare (tag position channel : Nat) : Statement (.assignSpare tag position channel) := of_request rfl
theorem returnMember (tag position channel : Nat) : Statement (.returnMember tag position channel) := of_request rfl
theorem guard (tag code position : Nat) : Statement (.guard tag code position) := of_request rfl
theorem startRebuild (tag : Nat) (positions : List Nat) : Statement (.startRebuild tag positions) := of_request rfl
theorem addTarget (tag position : Nat) : Statement (.addTarget tag position) := of_request rfl
theorem pauseRebuild (tag : Nat) : Statement (.pauseRebuild tag) := of_request rfl
theorem continueRebuild (tag : Nat) : Statement (.continueRebuild tag) := of_request rfl
theorem abortRebuild (tag : Nat) : Statement (.abortRebuild tag) := of_request rfl
theorem resumeRebuild (tag : Nat) : Statement (.resumeRebuild tag) := of_request rfl
theorem readExtent (tag first count : Nat) : Statement (.readExtent tag first count) := of_request rfl
theorem writeExtent (tag first count : Nat) : Statement (.writeExtent tag first count) := of_request rfl
theorem cancel (tag target : Nat) : Statement (.cancel tag target) := of_request rfl
theorem setShare (tag value : Nat) : Statement (.setShare tag value) := of_request rfl
theorem setChannel (tag channel timeout autoFail : Nat) : Statement (.setChannel tag channel timeout autoFail) := of_request rfl
theorem resetChannel (tag channel : Nat) : Statement (.resetChannel tag channel) := of_request rfl
theorem cacheMode (tag miss0 miss1 replace0 replace1 inject0 inject1 : Nat)
    : Statement (.cacheMode tag miss0 miss1 replace0 replace1 inject0 inject1) := of_request rfl
theorem listLost (tag start : Nat) : Statement (.listLost tag start) := of_request rfl
theorem loadLost (tag : Nat) (extents : List LostExtent) : Statement (.loadLost tag extents) := of_request rfl
theorem dropLost (tag position first count : Nat) : Statement (.dropLost tag position first count) := of_request rfl
theorem setLostLimit (tag value : Nat) : Statement (.setLostLimit tag value) := of_request rfl
theorem readCheckpoint (tag : Nat) : Statement (.readCheckpoint tag) := of_request rfl
theorem eraseCheckpoints (tag : Nat) : Statement (.eraseCheckpoints tag) := of_request rfl
theorem setInterval (tag value : Nat) : Statement (.setInterval tag value) := of_request rfl
theorem queryArray (tag : Nat) : Statement (.queryArray tag) := of_request rfl
theorem queryPass (tag : Nat) : Statement (.queryPass tag) := of_request rfl
theorem queryChannel (tag channel : Nat) : Statement (.queryChannel tag channel) := of_request rfl
theorem queryBank (tag bank : Nat) : Statement (.queryBank tag bank) := of_request rfl
theorem queryStore (tag : Nat) : Statement (.queryStore tag) := of_request rfl
theorem queryAttention (tag : Nat) : Statement (.queryAttention tag) := of_request rfl
theorem clearBank (tag bank overflowSeen : Nat) : Statement (.clearBank tag bank overflowSeen) := of_request rfl
theorem setThreshold (tag bank count enable : Nat) : Statement (.setThreshold tag bank count enable) := of_request rfl
theorem clearAttention (tag : Nat) (seen : Byte) : Statement (.clearAttention tag seen) := of_request rfl
theorem restart (tag : Nat) : Statement (.restart tag) := of_request rfl
theorem insertion (channel : Nat) : Statement (.insertion channel) := of_event rfl
theorem removal (channel : Nat) : Statement (.removal channel) := of_event rfl
theorem capacityCompletion (channel driveTag : Nat) (completion : Completion)
    : Statement (.capacityCompletion channel driveTag completion) := of_event rfl
theorem probeAllowanceExpiry (channel : Nat) : Statement (.probeAllowanceExpiry channel) := of_event rfl
theorem readCompletion (channel driveTag : Nat) (completion : Completion)
    : Statement (.readCompletion channel driveTag completion) := of_event rfl
theorem writeCompletion (channel driveTag : Nat) (completion : Completion)
    : Statement (.writeCompletion channel driveTag completion) := of_event rfl
theorem unmatchedCompletion (channel driveTag : Nat) (completion : Completion)
    : Statement (.unmatchedCompletion channel driveTag completion) := of_event rfl
theorem completionDiscarded (channel driveTag : Nat) (completion : Completion)
    : Statement (.completionDiscarded channel driveTag completion) := of_event rfl
theorem commandTimeout (channel driveTag : Nat) : Statement (.commandTimeout channel driveTag) := of_event rfl
theorem dataWaitExpiry (tag : Nat) : Statement (.dataWaitExpiry tag) := of_event rfl
theorem slotProgramEnd (slot : Nat) (ok : Bool) : Statement (.slotProgramEnd slot ok) := of_event rfl
theorem slotProgramTimeout (slot : Nat) : Statement (.slotProgramTimeout slot) := of_event rfl
theorem retireCellProgrammed (ok : Bool) (left : CellsLeft) : Statement (.retireCellProgrammed ok left) := of_event rfl
theorem eraseEnd (ok : Bool) (left : CellsLeft) : Statement (.eraseEnd ok left) := of_event rfl
theorem openCellProgrammed (ok : Bool) (left : CellsLeft) : Statement (.openCellProgrammed ok left) := of_event rfl
theorem eraseStepTimeout (left : CellsLeft) : Statement (.eraseStepTimeout left) := of_event rfl
theorem receivedFrameNotTaken : Statement .receivedFrameNotTaken := of_event rfl

end Sys2Proof.Laws.HostFramed
end

