-- ==== Sys2Proof/Laws/Requests.lean ====
section
/-! SUPPORT. The way of a request past the guard record, case by case (spec/11, R188, R190, R191), and what the
work of an event is once none is owed (log 4). -/

namespace Sys2Proof.Machine

@[simp] theorem drain_nil (n : Nat) (s : State) : drain n [] s = s := by cases n <;> rfl

theorem State.settle_idle (s : State) (h : s.agenda = []) : s.settle = s := by
  unfold State.settle
  rw [h, drain_nil]
  cases s
  cases h
  rfl

/-- One unit of work is done, and what it sets off stands before the rest. -/
theorem drain_cons (n : Nat) (t : Task) (ts : List Task) (s : State) :
    drain (n + 1) (t :: ts) s = drain n ((runTask t s).agenda ++ ts) { runTask t s with agenda := [] } := rfl

@[simp] theorem State.setGuard_self (s : State) (g : Option Guard) (h : s.ali.guard = g) : s.setGuard g = s := by
  cases s
  cases h
  rfl

/-- With no guard held, an unguarded request goes to its owner as it is. -/
theorem State.route_open {s : State} {tag code : Nat} {p : Option Nat} {own : State → State} (h : s.Open tag)
    (hc : s.guardedNow code = false) : s.route tag code p own = own s := by
  obtain ⟨ht, h0, hg⟩ := h
  simp [State.route, State.passGuard, ht, h0, hg, hc]

/-- With no guard held, a request of a code that no GUARD may name goes to its owner as it is. -/
theorem State.route_free {s : State} {tag : Nat} (h : s.Open tag) (code : Nat)
    (hc : guardableCodes.contains code = false) (p : Option Nat) (own : State → State) :
    s.route tag code p own = own s :=
  State.route_open h (by simp only [State.guardedNow, hc, Bool.false_and])

/-- A request that the guard record names goes to its owner, and the record is emptied. -/
theorem State.route_guarded {s : State} {tag code : Nat} {p : Option Nat} {own : State → State}
    (h : s.GuardedBy tag code p) : s.route tag code p own = own (s.setGuard none) := by
  obtain ⟨ht, h0, hg⟩ := h
  simp [State.route, State.passGuard, ht, h0, hg]

/-- A QUERY goes to its owner, and the guard record stays as it is. -/
theorem State.route_query {s : State} {tag code : Nat} {own : State → State} (h : s.Asked tag)
    (hq : queryCodes.contains code = true) (hc : guardableCodes.contains code = false) :
    s.route tag code none own = own s := by
  obtain ⟨ht, h0, hg⟩ := h
  have hne : s.ali.guard ≠ some { code := code, position := none } := fun hs => by
    have := hg _ hs
    simp_all
  simp only [State.route, State.passGuard, State.guardedNow, ht, h0, hne, hc, hq, if_true, if_false,
    Bool.false_and, Bool.false_eq_true]

/-- A guarded request that the guard record does not name is refused and logged, and the record is emptied. -/
theorem State.route_unguarded {s : State} {tag code : Nat} {p : Option Nat} {own : State → State}
    (ht : s.ali.taking = true) (h0 : tag ≠ 0) (hg : s.ali.guard ≠ some { code := code, position := p })
    (hc : s.guardedNow code = true) :
    s.route tag code p own =
      State.takeError linkBank (unguardedError code tag) (State.refuse tag .unguarded (s.setGuard none)) := by
  simp only [State.route, State.passGuard, ht, h0, hg, hc, if_true, if_false]

/-- Any other request breaks a guard that is held: it is logged, and the request goes on to its owner. -/
theorem State.route_breaks {s : State} {tag code : Nat} {p : Option Nat} {own : State → State} {g : Guard}
    (ht : s.ali.taking = true) (h0 : tag ≠ 0) (hs : s.ali.guard = some g)
    (hg : g ≠ { code := code, position := p }) (hc : s.guardedNow code = false)
    (hq : queryCodes.contains code = false) :
    s.route tag code p own = own (State.takeError linkBank (guardBrokenError code tag) (s.setGuard none)) := by
  simp [State.route, State.passGuard, ht, h0, hg, hc, hs]
  simp_all

/-- While the ALI takes no frame a request has no effect. -/
theorem State.route_shut {s : State} {tag code : Nat} {p : Option Nat} {own : State → State}
    (h : s.ali.taking = false) : s.route tag code p own = s := by
  simp [State.route, h]

theorem channelOf_val (c : Chan) : channelOf c.val = some c := by simp [channelOf]
theorem channelOf_none {c : Nat} (h : 11 < c) : channelOf c = none := by simp [channelOf]; omega
theorem bankOf_val (b : Fin 15) : bankOf b.val = some b := by simp [bankOf]
theorem bankOf_none {b : Nat} (h : 14 < b) : bankOf b = none := by simp [bankOf]; omega

/-- A value held to a range is the nearest value of the range. -/
theorem clamp_eq {low high : Nat} (h : low ≤ high) (v : Nat) : clamp low high v = max low (min high v) := by
  unfold clamp
  split
  · omega
  · split <;> omega

end Sys2Proof.Machine
end

