-- ==== Sys2Proof/Laws/Rows.lean ====
section
/-! SUPPORT. What the shared operations over rows give: the blocks of a segment by row, the pairs of a round, and
the cells of a working set (spec/06, R96, R97). -/

namespace Sys2Proof.Machine

/-- The pairs of a round: every position, every row given, where the condition holds. -/
@[simp] theorem mem_pairsWhere (g : Geometry) (rows : List Nat) (p : Nat → Nat → Bool) (x row : Nat) :
    (x, row) ∈ pairsWhere g rows p ↔ x < g.w ∧ row ∈ rows ∧ p x row = true := by
  simp [pairsWhere]

/-- The touched rows of a segment (R7). -/
theorem ExtentReq.mem_rows (r : ExtentReq) (g : Geometry) (row : Nat) :
    row ∈ r.rows g ↔ row < g.k ∧ ∃ b ∈ r.blocks g, b.row = row := by
  simp [ExtentReq.rows]

/-- The positions of a segment's blocks in a row. -/
theorem ExtentReq.mem_positionsIn (r : ExtentReq) (g : Geometry) (row x : Nat) :
    x ∈ r.positionsIn g row ↔ ∃ b ∈ r.blocks g, b.row = row ∧ b.position = x := by
  simp [ExtentReq.positionsIn, and_assoc]

/-- Rows in ascending order give pairs in ascending order, by position and then by row (log 11). -/
theorem pairsWhere_ascending (g : Geometry) (rows : List Nat) (p : Nat → Nat → Bool) (h : rows.Pairwise (· < ·)) :
    (pairsWhere g rows p).Pairwise fun a b => a.1 < b.1 ∨ (a.1 = b.1 ∧ a.2 < b.2) := by
  unfold pairsWhere
  rw [List.pairwise_flatMap]
  refine ⟨fun x _ => ?_, ?_⟩
  · rw [List.pairwise_map]
    exact (h.filter _).imp fun hab => Or.inr ⟨rfl, hab⟩
  · refine List.pairwise_lt_range.imp fun {a b} hab u hu v hv => ?_
    simp only [List.mem_map] at hu hv
    obtain ⟨_, _, rfl⟩ := hu
    obtain ⟨_, _, rfl⟩ := hv
    exact Or.inl hab

/-- The touched rows ascend. -/
theorem ExtentReq.rows_ascending (r : ExtentReq) (g : Geometry) : (r.rows g).Pairwise (· < ·) :=
  List.pairwise_lt_range.filter _

/-- The first of three causes is the same however they are taken together. -/
theorem ErasureCause.first_assoc (a b c : ErasureCause) : (a.first b).first c = a.first (b.first c) := by
  unfold ErasureCause.first
  by_cases hab : a.rank ≤ b.rank <;> by_cases hbc : b.rank ≤ c.rank <;> by_cases hac : a.rank ≤ c.rank <;>
    simp only [hab, hbc, hac, if_true, if_false] <;> omega

/-- UNAVAILABLE stands first in Table 1-8. -/
@[simp] theorem ErasureCause.first_unavailable (a : ErasureCause) : a.first .unavailable = .unavailable := by
  cases a <;> rfl

/-- The joint outcome of three tries is the same however they are taken together. -/
theorem BlockOutcome.join_assoc (a b c : BlockOutcome) : (a.join b).join c = a.join (b.join c) := by
  cases a <;> cases b <;> cases c <;> simp [BlockOutcome.join, ErasureCause.first_assoc]

/-- The outcome of a block after more cells have been added: that of both together. -/
theorem cellAt_append (cs ds : List Cell) (x row : Nat) :
    cellAt (cs ++ ds) x row = Option.merge BlockOutcome.join (cellAt cs x row) (cellAt ds x row) := by
  induction cs with
  | nil => cases h : cellAt ds x row <;> simp [cellAt, h]
  | cons c cs ih =>
    simp only [List.cons_append, cellAt, ih]
    by_cases hc : c.position = x ∧ c.row = row
    · simp only [hc, and_self, if_true]
      cases cellAt cs x row <;> cases cellAt ds x row <;> simp [BlockOutcome.join_assoc]
    · simp only [hc, if_false]

/-- The cells of blocks that are UNAVAILABLE. -/
theorem cellAt_unavailable (ps : List (Nat × Nat)) (x row : Nat) :
    cellAt (unavailableCells ps) x row = if (x, row) ∈ ps then some (.erased .unavailable) else none := by
  induction ps with
  | nil => rfl
  | cons p ps ih =>
    simp only [unavailableCells, List.map_cons, cellAt] at ih ⊢
    rw [ih]
    by_cases hp : p.1 = x ∧ p.2 = row
    · obtain ⟨rfl, rfl⟩ := hp
      by_cases hm : p ∈ ps <;> simp [hm, BlockOutcome.join]
    · have hne : (x, row) ≠ p := fun h => hp (by rw [← h]; exact ⟨rfl, rfl⟩)
      simp [hp, hne]

/-- A block is held once one of its cells is good. -/
theorem cellAt_good_iff (cs : List Cell) (x row : Nat) :
    (∃ b, cellAt cs x row = some (.good b)) ↔ ∃ c ∈ cs, c.position = x ∧ c.row = row ∧ c.outcome.isErased = false := by
  induction cs with
  | nil => simp [cellAt]
  | cons c cs ih =>
    by_cases hc : c.position = x ∧ c.row = row
    · have hj : (∃ b, cellAt (c :: cs) x row = some (.good b)) ↔
          c.outcome.isErased = false ∨ ∃ b, cellAt cs x row = some (.good b) := by
        simp only [cellAt, hc, and_self, if_true]
        cases c.outcome <;> cases cellAt cs x row with
          | none => simp [BlockOutcome.isErased]
          | some o => cases o <;> simp [BlockOutcome.join, BlockOutcome.isErased]
      rw [hj, ih]
      simp [hc.1, hc.2]
    · simp only [cellAt, hc, if_false, ih, List.mem_cons, exists_eq_or_imp]
      exact ⟨Or.inr, fun h => h.resolve_left fun h' => hc ⟨h'.1, h'.2.1⟩⟩

/-- Whether a block is held: its outcome is its contents. -/
theorem heldAt_iff (cs : List Cell) (x row : Nat) : heldAt cs x row = true ↔ ∃ b, cellAt cs x row = some (.good b) := by
  unfold heldAt
  cases cellAt cs x row with
  | none => simp
  | some o => cases o <;> simp [BlockOutcome.isErased]

end Sys2Proof.Machine
end

