-- ==== Sys2Proof/Laws/Work.lean ====
section
/-! SUPPORT. The work of one event, once for all (log 4): what every unit of work keeps, the whole cascade
keeps; and what handing a record to the Checkpoint Store leaves unchanged (spec/09, R162). -/

namespace Sys2Proof.Machine

/-- What every unit of work keeps, and what does not look at the agenda, a cascade keeps. -/
theorem drain_keeps (P : State → Prop) (work : ∀ t s, P s → P (runTask t s))
    (agenda : ∀ ts s, P s → P { s with agenda := ts }) :
    ∀ (n : Nat) (ts : List Task) (s : State), P s → P (drain n ts s) := by
  intro n
  induction n with
  | zero =>
    intro ts s h
    cases ts with
    | nil => exact h
    | cons t ts => exact agenda _ _ h
  | succ n ih =>
    intro ts s h
    cases ts with
    | nil => exact h
    | cons t ts => exact ih _ _ (agenda _ _ (work t s h))

/-- What every unit of work keeps, and what does not look at the agenda, the end of an event keeps. -/
theorem State.settle_keeps (P : State → Prop) (work : ∀ t s, P s → P (runTask t s))
    (agenda : ∀ ts s, P s → P { s with agenda := ts }) (s : State) (h : P s) : P s.settle :=
  drain_keeps P work agenda _ _ _ (agenda _ _ h)

/-- Handing a record touches the Checkpoint Store, the error unit and the link at most. -/
theorem State.giveRecord_cases (r : CheckpointRecord) (s : State) :
    ∃ ali cps eba, s.giveRecord r = { s with ali := ali, cps := cps, eba := eba } := by
  unfold State.giveRecord
  cases s.cps.state with
  | ready =>
    simp only [State.beginRecord]
    split
    · exact ⟨s.ali, _, s.eba, rfl⟩
    · split
      · refine ⟨(s.wornDrop r).ali, (s.wornDrop r).cps, (s.wornDrop r).eba, ?_⟩
        have hagenda : (s.wornDrop r).agenda = s.agenda := by
          simp only [State.wornDrop, State.storeFault, State.latch_agenda, State.putStore_agenda]
          exact State.takeError_agenda _ _ _ (Or.inl (by decide))
        generalize hu : s.wornDrop r = u at hagenda
        have : u.table = s.table ∧ u.slt = s.slt ∧ u.esu = s.esu ∧ u.rbc = s.rbc ∧ u.cbs = s.cbs ∧ u.dc = s.dc ∧
            u.lel = s.lel ∧ u.free = s.free ∧ u.pending = s.pending := by
          subst hu
          simp [State.wornDrop, State.storeFault]
        cases u
        cases s
        simp_all
      · exact ⟨s.ali, _, s.eba, rfl⟩
  | programming => exact ⟨s.ali, _, s.eba, rfl⟩
  | erasing => exact ⟨s.ali, _, s.eba, rfl⟩
  | faulted => exact ⟨s.ali, s.cps, s.eba, rfl⟩
  | scanning => exact ⟨s.ali, s.cps, s.eba, rfl⟩

/-- Handing a record of the pass does the same (R143). -/
theorem State.handRecord_cases (ts : List Target) (r : PassResult) (s : State) :
    ∃ ali cps eba, s.handRecord ts r = { s with ali := ali, cps := cps, eba := eba } := by
  unfold State.handRecord
  split
  · exact State.giveRecord_cases _ s
  · exact ⟨s.ali, s.cps, s.eba, rfl⟩

/-- Giving a lock or a wait up touches the lock table and the agenda (R84 to R89). -/
theorem State.giveUp_cases (r : Requester) (s : State) :
    ∃ slt agenda, s.giveUp r = { s with slt := slt, agenda := agenda } := by
  unfold State.giveUp
  split <;> exact ⟨_, _, rfl⟩

/-- A job that is cut short touches the window, the lock table and the agenda (R139). -/
theorem State.cutJob_cases (j : Job) (s : State) :
    ∃ rbc slt agenda, s.cutJob j = { s with rbc := rbc, slt := slt, agenda := agenda } := by
  unfold State.cutJob
  split
  · exact ⟨s.rbc, s.slt, s.agenda, rfl⟩
  · split
    · obtain ⟨slt, agenda, h⟩ := State.giveUp_cases (.job j.k)
        (s.putJob { j with state := .failed, cutShort := true })
      exact ⟨_, slt, agenda, h⟩
    · exact ⟨_, _, _, rfl⟩

/-- So do all the jobs of the window together (R139, R140). -/
theorem State.cutJobs_cases (s : State) :
    ∃ rbc slt agenda, s.cutJobs = { s with rbc := rbc, slt := slt, agenda := agenda } := by
  have key : ∀ (js : List Job) (s : State), ∃ rbc slt agenda,
      js.foldl (fun s j => s.cutJob j) s = { s with rbc := rbc, slt := slt, agenda := agenda } := by
    intro js
    induction js with
    | nil => exact fun s => ⟨s.rbc, s.slt, s.agenda, rfl⟩
    | cons j js ih =>
      intro s
      obtain ⟨rbc, slt, agenda, h⟩ := State.cutJob_cases j s
      obtain ⟨rbc', slt', agenda', h'⟩ := ih (s.cutJob j)
      rw [h] at h'
      exact ⟨rbc', slt', agenda', by rw [List.foldl_cons, h, h']⟩
  exact key _ s

/-- The loss of a target leaves the Array Table, the channels, the buffer store, the Lost Extent List and the
extent requests as they are (R138, R139). -/
theorem State.targetLost_cases (x : Nat) (g : Geometry) (s : State) : ∃ ali rbc slt cps eba agenda,
    s.targetLost x g =
      { s with ali := ali, rbc := rbc, slt := slt, cps := cps, eba := eba, agenda := agenda } := by
  simp only [State.targetLost]
  split
  · obtain ⟨rbc, slt, agenda, h⟩ := State.cutJobs_cases
      ((s.putPass (s.rbc.lose g.s x)).putPass ((s.putPass (s.rbc.lose g.s x)).rbc.stopFor .abortedTargetsLost))
    exact ⟨s.ali, rbc, slt, s.cps, s.eba, agenda, h⟩
  · obtain ⟨ali, cps, eba, h⟩ := State.handRecord_cases (s.putPass (s.rbc.lose g.s x)).rbc.targets .none
      (s.putPass (s.rbc.lose g.s x))
    exact ⟨ali, _, _, cps, eba, _, h⟩

end Sys2Proof.Machine
end

