-- ==== Sys2Proof/Tests/Slice0.lean ====
section
/-! SUPPORT. Tests of the model: ill-formed terms that WellFormed refuses, the worked cases of spec/, one step of
each kind of command, and for each statement with hypotheses a state and operands that meet them. Expected values
come from the worked cases and tables of spec/, or are worked by hand from its rules. -/

namespace Sys2Proof.Tests
open Sys2Proof Sys2Proof.Machine

/-! ## Small states -/

/-- The state after a command. -/
def after (c : Instr) (s : State) : State :=
  match exec c s with
  | .next t => t
  | _ => s

/-- The state after commands in order. -/
def afterAll (cs : List Instr) (s : State) : State := cs.foldl (fun s c => after c s) s

/-- Reset once its scan has ended, with a frame in transmission, so that frames queue. -/
def opened : State :=
  { after .checkpointScanEnd State.reset with
    ali := { LinkState.cold with taking := true, sending := some (.notice 0 0) } }

/-- The array of section 1.9.1. -/
def wide : Geometry := { w := 6, k := 16, b0 := 2048, s := 1000 }

/-- A small array of width 4: 160 array blocks, 80 blocks of each drive. -/
def small : Geometry := { w := 4, k := 8, b0 := 0, s := 10 }

/-- A channel with a READY drive of n blocks. -/
def drive (n : Nat) : Channel := { Channel.cold with state := .ready, presence := true, capacity := some n }

/-- An IN-SERVICE position. -/
def member (c : Chan) : PosRec := { state := .inService, channel := some c, spare := none, cause := none }
/-- A FAILED position. -/
def lacking (spare : Option Chan) : PosRec := { state := .failed, channel := none, spare := spare, cause := some .host }
/-- A REBUILDING position. -/
def rebuilding (c : Chan) : PosRec := { state := .rebuilding, channel := some c, spare := none, cause := some .host }

/-- An array on drives of just the size it needs, channel 11 EMPTY. -/
def arrayOf (g : Geometry) (ps : List PosRec) : State :=
  { opened with
    table := { definition := some { geom := g, positions := ps } }
    dc := { opened.dc with channels := (Vec.replicate 12 (drive g.memberEnd)).set 11 Channel.cold } }

/-- The small array, NORMAL. -/
def normal : State := arrayOf small [member 0, member 1, member 2, member 3]
/-- The small array with position 1 FAILED and channel 5 its spare. -/
def degraded : State := arrayOf small [member 0, lacking (some 5), member 2, member 3]
/-- The small array with positions 1 and 2 FAILED and channels 5 and 6 their spares. -/
def degradedTwice : State := arrayOf small [member 0, lacking (some 5), lacking (some 6), member 3]
/-- The small array with position 1 FAILED and no spare. -/
def unspared : State := arrayOf small [member 0, lacking none, member 2, member 3]
/-- The small array, FAILED. -/
def broken : State := arrayOf small [member 0, lacking none, lacking none, lacking none]
/-- The small array with position 1 REBUILDING on channel 5. -/
def restoring : State := arrayOf small [member 0, rebuilding 5, member 2, member 3]

/-- A state with a guard held. -/
def guarding (code : Nat) (x : Option Nat) (s : State) : State :=
  { s with ali := { s.ali with guard := some { code := code, position := x } } }

/-- A state with a pass in place of its own. -/
def passing (p : PassRecord) (s : State) : State := { s with rbc := p }

/-- A RUNNING pass onto position 1 from F to N, with nothing in its window. -/
def running (f n : Nat) : PassRecord :=
  { PassRecord.cold with
    state := .running, number := 1, f := f, n := n, e := 10
    targets := [{ position := 1, channel := 5, start := 0, state := .active }] }

/-- A job with nothing outstanding. -/
def jobAt (k : Nat) (state : JobState) : Job :=
  { k := k, stripe := k, targets := [1], state := state, cells := [], erasures := [], outstanding := 0, cutShort := false }

/-- A working set with nothing in it. -/
def noWork : WorkingSet :=
  { cells := [], rebuilding := [], round := 1, erasures := [], grant := none, received := [], dataTimer := false,
    method := none, writeSet := [] }

/-- An extent request of two blocks from array block 0 on. -/
def entry (tag : Nat) (kind : ExtentKind) (state : ExtentState) (w : WorkingSet) : ExtentReq :=
  { tag := tag, kind := kind, first := 0, count := 2, segment := 0, blocksDone := 0, lostCount := 0, firstLost := none,
    state := state, outstanding := 0, endPending := none, work := w }

/-- A state with extent requests in its table. -/
def holding (rs : List ExtentReq) (s : State) : State := { s with esu := { requests := rs } }

/-- A write in DATA-WAIT with a grant of its two blocks. -/
def waiting : ExtentReq := entry 7 .write .dataWait { noWork with grant := some (0, 2), dataTimer := true }

/-- The small array with a command in slot 0 of channel 2 under tag 9. -/
def busy (o : Owner) (cmd : DriveCmd) (reissues : Nat) (s : State) : State :=
  s.putChannel 2 { s.channel 2 with
    slots := (s.channel 2).slots.set 0
      (some { tag := 9, allowance := 8000, work := .owned o cmd cmd.first [] reissues [] }) }

/-- A READ of 16 blocks of position 2 from block 0 on. -/
def readCmd : DriveCmd := { position := 2, first := 0, count := 16, op := .read [] }
/-- A WRITE of one block of position 2. -/
def writeCmd : DriveCmd := { position := 2, first := 0, count := 1, op := .write [Block.fill 0x35] [true] }

/-- A completion. -/
def ending (r : DriveResult) (n : Nat) (bs : List Block) : Completion := { result := r, number := n, blocks := bs }

/-- Cells and power that leave nothing. -/
def cells : CellsLeft := { retire := 0xFF, opening := 0xFF }

/-! ## Ill-formed terms (R186, R42, R158) -/

theorem test_wf_byteField : (Instr.setShare 1 255).wf = true ∧ (Instr.setShare 1 256).wf = false := by decide
theorem test_wf_twoByteField : (Instr.setLostLimit 1 65535).wf = true ∧ (Instr.setLostLimit 1 65536).wf = false := by
  decide
theorem test_wf_fourByteField :
    (Instr.setInterval 1 4294967295).wf = true ∧ (Instr.setInterval 1 4294967296).wf = false := by decide
theorem test_wf_sixByteField : (Instr.readExtent 1 281474976710656 1).wf = false ∧
    (Instr.dropLost 1 0 0 281474976710656).wf = false := by decide
theorem test_wf_tag : (Instr.identify 0).wf = false ∧ (Instr.identify 65536).wf = false ∧
    (Instr.identify 65535).wf = true := by decide
theorem test_wf_channel : (Instr.insertion 12).wf = false ∧ (Instr.removal 12).wf = false ∧
    (Instr.probeAllowanceExpiry 12).wf = false := by decide
theorem test_wf_driveTag : (Instr.commandTimeout 0 65536).wf = false ∧ (Instr.commandTimeout 12 0).wf = false := by
  decide
theorem test_wf_completion :
    (Instr.readCompletion 0 0 (ending .medium 281474976710656 [])).wf = false ∧
    (Instr.writeCompletion 12 0 (ending .good 0 [])).wf = false ∧
    (Instr.capacityCompletion 0 65536 (ending .good 0 [])).wf = false ∧
    (Instr.readCompletion 0 0 (ending .good 0 (List.replicate 257 Block.zero))).wf = false := by decide +kernel
theorem test_wf_positionEntry :
    (Instr.defineArray 1 1 8 0 1 [{ state := 256, channel := 0 }]).wf = false ∧
    (Instr.defineArray 1 1 8 0 1 [{ state := 0, channel := 256 }]).wf = false := by decide
theorem test_wf_positionCount : (Instr.defineArray 1 2 8 0 1 [{ state := 0, channel := 0 }]).wf = false := by decide
theorem test_wf_lostExtent :
    (Instr.loadLost 1 [{ position := 256, first := 0, count := 1 }]).wf = false ∧
    (Instr.loadLost 1 [{ position := 0, first := 281474976710656, count := 1 }]).wf = false ∧
    (Instr.loadLost 1 [{ position := 0, first := 0, count := 4294967296 }]).wf = false := by decide
theorem test_wf_slot : (Instr.slotProgramEnd 64 true).wf = false ∧ (Instr.slotProgramTimeout 64).wf = false := by decide
theorem test_wf_discardTag : (Instr.frameDiscarded (.unknownKind 65536)).wf = false := by decide

/-! ## Words and frames -/

/-- No row of the table has bits. -/
theorem test_decodeTableWord : decodeTableWord 8 0x11 = none := rfl

/-- FAIL-MEMBER of position 2 with tag 42, written out from Tables 11-1 and 11-3; the CRC by hand from R186. -/
def failMemberFrame : List Byte := [0x01, 0x00, 0x2A, 0x11, 0x00, 0x01, 0x02, 0x79, 0xD5]

theorem test_receive_failMember : receive failMemberFrame = .failMember 42 2 := by decide +kernel
theorem test_send_failMember : hostFrame (.failMember 42 2) = some failMemberFrame := by decide +kernel
theorem test_receive_writeExtent :
    receive [0x01, 0x00, 0x3C, 0x31, 0x00, 0x08, 0x00, 0x00, 0x00, 0x00, 0x03, 0xC8, 0x00, 0x01, 0x97, 0xDD] =
      .writeExtent 60 968 1 := by decide +kernel
theorem test_receive_dataLost :
    receive [0x03, 0x00, 0x33, 0x00, 0x00, 0x03, 0x00, 0x08, 0x01, 0xB6, 0x6D] = .data 51 8 none := by decide +kernel
theorem test_receive_wrongCrc :
    receive [0x01, 0x00, 0x2A, 0x11, 0x00, 0x01, 0x03, 0x79, 0xD5] = .frameDiscarded .frameCheck := by decide +kernel
theorem test_receive_wrongLength :
    receive [0x01, 0x00, 0x01, 0x01, 0x00, 0x01, 0x00, 0xA6, 0x7B] = .unknownRequest 1 1 := by decide +kernel
theorem test_receive_unknownKind :
    receive [0x09, 0x00, 0x01, 0x00, 0x00, 0x00, 0x30, 0x46] = .frameDiscarded (.unknownKind 1) := by decide +kernel
theorem test_receive_tagZero :
    receive [0x01, 0x00, 0x00, 0x01, 0x00, 0x00, 0x7C, 0x80] = .unknownRequest 0 1 := by decide +kernel

/-! ## Geometry (sections 1.9.1 and 1.10.1) -/

theorem test_place_1000 :
    wide.stripeOf 1000 = 15 ∧ wide.dataIndexOf 1000 = 2 ∧ wide.rowOf 1000 = 8 ∧ wide.posP 15 = 2 ∧ wide.posQ 15 = 3 ∧
    wide.posData 15 2 = 0 ∧ wide.memberBlock 15 8 = 2296 := by decide
theorem test_placeBack :
    wide.memberToArray 0 2296 = some 1000 ∧ wide.role (wide.memberStripe 2296) 2 = .p ∧
    wide.memberRow 2296 = 8 := by decide
/-- R5: no place below the member data range, above it, or for P. -/
theorem test_placeNowhere :
    wide.memberToArray 0 2047 = none ∧ wide.memberToArray 0 18048 = none ∧ wide.memberToArray 2 2296 = none := by decide
/-- Table 1-6, the row s mod 6 = 3. -/
theorem test_roles : [0, 1, 2, 3, 4, 5].map (wide.role 15) = [.data 2, .data 3, .p, .q, .data 0, .data 1] := by decide
theorem test_range : wide.inRange 63990 10 = true ∧ wide.inRange 63990 11 = false := by decide
/-- Table 1-7. -/
theorem test_segments :
    wide.segments 1000 40 = 2 ∧ wide.segCount 1000 40 0 = 24 ∧ wide.segFirst 1000 1 = 1024 ∧
    wide.segCount 1000 40 1 = 16 ∧ wide.posData 16 0 = 3 ∧ wide.memberBlock 16 0 = 2304 := by decide

/-! ## Parity (section 1.12), on blocks filled with the byte followed -/

theorem test_doubling : gfDouble 0xA4 = 0x55 ∧ gfHalve 0x45 = 0xAC ∧ gfMul 0xF4 0xF4 = 0xA7 ∧ gfMul 0x03 0xF4 = 0x01 := by
  decide
theorem test_encode :
    encode [Block.fill 0x35, Block.fill 0xA7] = (Block.fill 0x92, Block.fill 0x66) := by decide +kernel
/-- Sections 1.12.2: D_1 and P are lost. -/
theorem test_loseDataAndP :
    reconstruct { data := [some (Block.fill 0x35), none], p := none, q := some (Block.fill 0x66) } =
      some { data := [Block.fill 0x35, Block.fill 0xA7], p := Block.fill 0x92, q := Block.fill 0x66 } := by
  decide +kernel
/-- Section 1.12.3: both data blocks are lost. -/
theorem test_loseBothData :
    reconstruct { data := [none, none], p := some (Block.fill 0x92), q := some (Block.fill 0x66) } =
      some { data := [Block.fill 0x35, Block.fill 0xA7], p := Block.fill 0x92, q := Block.fill 0x66 } := by
  decide +kernel
/-- Section 1.12.4: d2 and P of a wide row. -/
theorem test_wideRow :
    (reconstruct { data := [some (Block.fill 0x12), some (Block.fill 0x34), none, some (Block.fill 0x78)],
                   p := none, q := some (Block.fill 0xD8) }).map
      (fun f => (f.data.getD 2 Block.zero, f.p)) = some (Block.fill 0x56, Block.fill 0x08) := by decide +kernel
/-- Section 1.12.5. -/
theorem test_delta :
    deltaP (Block.fill 0x92) (Block.fill 0xA7) (Block.fill 0xA4) = Block.fill 0x91 ∧
    deltaQ 1 (Block.fill 0x66) (Block.fill 0xA7) (Block.fill 0xA4) = Block.fill 0x60 := by decide +kernel

/-! ## The buffer store (section 4.9) -/

theorem test_set103 : Machine.setOf 3 2296 = 103 ∧ Machine.setOf 1 2370 = 103 ∧ Machine.setOf 5 2478 = 103 ∧ Machine.setOf 0 2407 = 103 := by decide

/-! ## Stripe locks (Table 5-3) -/

/-- One act on a lock table: a request of a mode, or a release. -/
def lockAct (t : LockTable) (a : Requester × Option LockMode) : LockTable :=
  match a.2 with
  | some mode => (t.request a.1 15 mode).table
  | none => (t.release a.1).table

/-- The acts of Table 5-3, steps 1 to 13. -/
def lockActs : List (Requester × Option LockMode) :=
  [(.job 15, some .shared), (.extent 21, some .shared), (.extent 22, some .exclusive), (.extent 23, some .shared),
   (.extent 21, none), (.job 15, none), (.extent 24, some .shared), (.extent 25, some .exclusive),
   (.extent 26, some .shared), (.extent 22, none), (.extent 23, none), (.extent 24, none), (.extent 25, none)]

/-- The table after the first n acts. -/
def locksAfter (n : Nat) : LockTable := (lockActs.take n).foldl lockAct { entries := [], fullQueue := [] }

theorem test_locks_step9 :
    (locksAfter 9).entries = [{ stripe := 15, mode := .exclusive, holders := [.extent 22], waiters := [
      { requester := .extent 23, mode := .shared }, { requester := .extent 24, mode := .shared },
      { requester := .extent 25, mode := .exclusive }, { requester := .extent 26, mode := .shared }] }] := by decide
theorem test_locks_step10 :
    (locksAfter 10).entries = [{ stripe := 15, mode := .shared, holders := [.extent 23, .extent 24], waiters := [
      { requester := .extent 25, mode := .exclusive }, { requester := .extent 26, mode := .shared }] }] := by decide
theorem test_locks_step14 :
    ((locksAfter 13).release (.extent 26)).table = { entries := [], fullQueue := [] } := by decide
/-- Step 3, then 22 withdraws before step 4: 23 shares at once. -/
theorem test_locks_withdraw :
    (((locksAfter 4).withdraw (.extent 22)).granted) = [.extent 23] := by decide

/-! ## Sharing four slots (Table 3-2) -/

/-- A command of an owner, told apart by its first block. -/
def cmdOf (o : Owner) (n : Nat) : QueuedCmd := { owner := o, cmd := { position := 2, first := n, count := 1, op := .read [] } }

/-- Table 3-2, step 0: F1, F2 and B1 in slots, F3, F4 and B2, B3 in the queues. -/
def sharing : Channel :=
  { drive 80 with
    slots := (((Vec.replicate 4 none).set 0 (some { tag := 0, allowance := 8000, work := .owned (.segment 1) (cmdOf (.segment 1) 1).cmd 1 [] 0 [] })).set 1
      (some { tag := 1, allowance := 8000, work := .owned (.segment 2) (cmdOf (.segment 2) 2).cmd 2 [] 0 [] })).set 2
      (some { tag := 2, allowance := 8000, work := .owned (.job 1) (cmdOf (.job 1) 1).cmd 1 [] 0 [] })
    foreground := [cmdOf (.segment 3) 3, cmdOf (.segment 4) 4], rebuild := [cmdOf (.job 2) 2, cmdOf (.job 3) 3]
    tagCounter := 3 }

theorem test_share_step1 :
    (sharing.arbitrate 2 4).rebuildOut = 2 ∧ (sharing.arbitrate 2 4).foreground.length = 2 ∧
    (sharing.arbitrate 2 4).rebuild = [cmdOf (.job 3) 3] := by decide
theorem test_share_step2 :
    (((sharing.arbitrate 2 4).putSlot 0 none).arbitrate 2 4).foreground = [cmdOf (.segment 4) 4] := by decide

/-! ## The Lost Extent List (Table 8-2) -/

/-- Positions 0 and 1 of the list at step 0, and 13 entries far away. -/
def lostAt0 : State :=
  { opened with
    lel := { limit := 16, entries :=
      { position := 1, first := 2290, count := 10, cause := .loaded } ::
        (List.range 13).map fun i => { position := 3, first := 4000 + 2 * i, count := 1, cause := .loaded } } }

/-- The list after steps 1 to 3. -/
def lostAt3 : State :=
  ((lostAt0.addLost 0 2295 1 .unrecoverableRow).2.addLost 0 2296 1 .unrecoverableRow).2.addLost 0 2307 1 .unrecoverableRow |>.2

theorem test_lost_step3 :
    lostAt3.lel.entries.take 3 =
      [{ position := 0, first := 2295, count := 2, cause := .unrecoverableRow },
       { position := 0, first := 2307, count := 1, cause := .unrecoverableRow },
       { position := 1, first := 2290, count := 10, cause := .loaded }] ∧
    lostAt3.lel.entries.length = 16 := by decide
/-- Steps 4 and 5: a split and an addition refused at the limit. -/
theorem test_lost_step5 :
    (lostAt3.trim 1 2293 1).lel = lostAt3.lel ∧ (lostAt3.addLost 0 2320 1 .unrecoverableRow).1 = false := by decide
/-- Steps 6 to 8: with a limit of 40 the entry is split, and a half shortened. -/
theorem test_lost_step8 :
    ((((after (.setLostLimit 9 40) lostAt3).trim 1 2293 1).trim 1 2290 1).lel.entries.drop 2).take 2 =
      [{ position := 1, first := 2291, count := 2, cause := .loaded },
       { position := 1, first := 2294, count := 6, cause := .loaded }] := by decide

/-! ## The Checkpoint Store (Table 9-2) -/

/-- The record of a pass with F as given. -/
def recordAt (f : Nat) : CheckpointRecord :=
  { number := 9, geom := wide, targets := [], f := f, e := 10000, result := .none }

/-- A store with slots 0 to 61 WRITTEN, and the record of F 2048 under way in slot 62 (step 1). -/
def programming : CheckpointStore :=
  let written : NvSlot := { body := .record (recordAt 1024), marker := 0x5A }
  { opened.cps with
    nv := { opened.cps.nv with
      slots := ((Vec.replicate 64 written).set 62 NvSlot.erased).set 63 NvSlot.erased, eraseCount := 417 }
    slotMap := ((Vec.replicate 64 SlotStatus.written).set 62 .blank).set 63 .blank
    state := .programming, op := .program 62 (recordAt 2048) }

/-- Steps 2 and 3: slot 62 fails, and the record of F 3072 waits. -/
def storeAt3 : State := (after (.slotProgramEnd 62 false) { opened with cps := programming }).giveRecord (recordAt 3072)

theorem test_store_step3 :
    storeAt3.cps.op = .program 63 (recordAt 2048) ∧ storeAt3.cps.errorRun = 1 ∧ storeAt3.cps.status = .programError ∧
    storeAt3.cps.pendingRecord = some (recordAt 3072) ∧ storeAt3.cps.nextFree = some 63 := by decide +kernel

/-- Steps 4 and 5: slot 63 is WRITTEN, an erase cycle begins, and F 4096 replaces F 3072. -/
def storeAt5 : State := (after (.slotProgramEnd 63 true) storeAt3).giveRecord (recordAt 4096)

theorem test_store_step5 :
    storeAt5.cps.state = .erasing ∧ storeAt5.cps.latest = some (63, recordAt 2048) ∧ storeAt5.cps.status = .normal ∧
    storeAt5.cps.pendingRecord = some (recordAt 4096) := by decide +kernel

/-- Steps 6 to 8: the cycle, and the pending record in slot 0. -/
def storeAt8 : State :=
  afterAll [.retireCellProgrammed true cells, .eraseEnd true cells, .openCellProgrammed true cells, .slotProgramEnd 0 true]
    storeAt5

theorem test_store_step8 :
    storeAt8.cps.state = .ready ∧ storeAt8.cps.nv.eraseCount = 418 ∧ storeAt8.cps.latest = some (0, recordAt 4096) ∧
    storeAt8.cps.nextFree = some 1 := by decide +kernel

/-- R159: the erase cycle that a failed slot 63 sets off for a newer record begins with status NORMAL. -/
theorem test_store_lastSlotFails :
    let t := after (.slotProgramEnd 63 false) { opened with cps := { programming with
      op := .program 63 (recordAt 2048), pendingRecord := some (recordAt 3072) } }
    t.cps.state = .erasing ∧ t.cps.status = .normal ∧ t.cps.pendingRecord = some (recordAt 3072) := by decide +kernel

/-! ## An error bank (Table 10-4) -/

/-- The array of section 10.6 in small: SET-THRESHOLD of bank 2 with n = 3, auto-fail enabled on channel 2, and a
READ of 16 blocks of request 30. -/
def bankAt0 : State := busy (.segment 30) readCmd 0 (afterAll [.setThreshold 1 2 3 1, .setChannel 2 2 8000 1] normal)

theorem test_bank_step0 : (bankAt0.eba.banks.get 2).counter = 4092 ∧ (bankAt0.eba.banks.get 2).autoFail = true := by
  decide

/-- Step 1: MEDIUM at the first block. -/
def bankAt1 : State := after (.readCompletion 2 9 (ending .medium 0 [])) bankAt0

theorem test_bank_step1 :
    (bankAt1.eba.banks.get 2).counter = 4093 ∧
    (bankAt1.eba.banks.get 2).record =
      some { code := .mediumRead, uncorrected := false, block := some 0, count := 16, kind := some .read,
             owner := some (.request 30) } ∧
    bankAt1.eba.attention = 0x80 := by decide +kernel
/-- Steps 4 and 5: a second error sets overflow, and a CLEAR-BANK that did not see it leaves it. -/
theorem test_bank_step5 :
    ((after (.clearBank 4 2 0) (after (.readCompletion 2 0 (ending .medium 1 [])) bankAt1)).eba.banks.get 2).overflow =
      true := by decide +kernel
/-- Step 6: the third error brings the counter to 4095, and the demand fails the position. -/
theorem test_bank_step6 :
    let t := after (.commandTimeout 2 1) (after (.readCompletion 2 0 (ending .medium 1 [])) bankAt1)
    (t.eba.banks.get 2).reached = true ∧ t.eba.attention = 0xA2 ∧
      t.table.position 2 = some { state := .failed, channel := none, spare := none, cause := some .threshold } := by
  decide +kernel

/-! ## Guards (Table 11-4) -/

/-- Steps 1 to 3. -/
def guardAt3 : State := afterAll [.guard 40 0x11 3, .queryArray 41, .failMember 42 2] normal

theorem test_guard_step3 :
    guardAt3.ali.guard = none ∧ (guardAt3.eba.banks.get 13).record =
      some { code := .unguarded, uncorrected := false, block := none, count := 0, kind := some (.request 0x11),
             owner := some (.request 42) } := by decide +kernel
theorem test_guard_step7 :
    (afterAll [.guard 45 0x11 2, .failMember 46 2] normal).table.position 2 =
      some { state := .failed, channel := none, spare := none, cause := some .host } := by decide +kernel

/-! ## A READ with two bad blocks (Table 3-4) -/

/-- The READ of 5000 to 5015 for the job at pass position 300. -/
def badRead : State := busy (.job 300) { position := 2, first := 5000, count := 16, op := .read [] } 0 normal

/-- Steps 1 and 2: both reissues are made, under the tags 0 and 1. -/
theorem test_read_step2 :
    let s := afterAll [.readCompletion 2 9 (ending .medium 5003 [Block.zero, Block.zero, Block.zero]),
                       .readCompletion 2 0 (ending .medium 5004 [])] badRead
    (s.channel 2).slots.get 0 = some
      { tag := 1, allowance := 8000
        work := .owned (.job 300) { position := 2, first := 5000, count := 16, op := .read [] } 5005
          [.good Block.zero, .good Block.zero, .good Block.zero, .erased .medium, .erased .medium] 2 [] } ∧
    (s.eba.banks.get 2).counter = 2 := by decide +kernel

/-! ## A partial write in DEGRADED-1 (section 6.8) -/

/-- The array of section 1.9.1 with position 0 FAILED. -/
def wideDegraded : State := arrayOf wide [lacking none, member 1, member 2, member 3, member 4, member 5]

/-- The commands in the slots of a channel, in slot order. -/
def commandsAt (c : Chan) (s : State) : List DriveCmd :=
  (s.channel c).numbered.filterMap fun e =>
    match e.2 with
    | some { work := .owned _ cmd .., .. } => some cmd
    | _ => none

/-- Request 60 with its data: Table 6-3, step 2. -/
def modifying : State := afterAll [.writeExtent 60 968 1, .data 60 0 (some (Block.fill 0x13))] wideDegraded

theorem test_modify_step2 :
    [4, 2, 3].map (fun c => commandsAt c modifying) =
      [4, 2, 3].map fun c => [{ position := c, first := 2296, count := 1, op := .read [] }] := by decide +kernel
/-- Steps 3 and 4: the delta, and the three WRITEs. -/
theorem test_modify_step4 :
    let s := afterAll [.readCompletion 4 0 (ending .good 0 [Block.fill 0x12]),
                       .readCompletion 2 0 (ending .good 0 [Block.fill 0x08]),
                       .readCompletion 3 0 (ending .good 0 [Block.fill 0xD8])] modifying
    [(4, 0x13), (2, 0x09), (3, 0xD9)].all (fun e =>
      commandsAt (Fin.ofNat 12 e.1) s ==
        [{ position := e.1, first := 2296, count := 1, op := .write [Block.fill e.2] [true] }]) = true := by
  decide +kernel
/-- Section 6.8.2: the method is RECONSTRUCT, and the other data blocks are read. -/
theorem test_reconstruct_round1 :
    let s := afterAll [.writeExtent 61 1000 1, .data 61 0 (some (Block.fill 0x50))] wideDegraded
    [4, 5, 1, 2, 3].map (fun c => (commandsAt c s).length) = [1, 1, 1, 0, 0] := by decide +kernel

/-- R97: a block that ended as an erasure on an available position is not yet held, and is read again. -/
theorem test_secondRound_readsAgain :
    let s := afterAll [.readExtent 7 0 1, .readCompletion 1 0 (ending .medium 0 [])] normal
    [0, 1, 2, 3].map (fun c => commandsAt c s) =
      [0, 1, 2, 3].map fun c => [{ position := c, first := 0, count := 1, op := .read [] }] := by decide +kernel

/-- R10: of two causes that two READs give, the first in the order of Table 1-8; contents once obtained win. -/
theorem test_causes_ordered :
    [[.erased .medium, .erased .device], [.erased .timeout, .erased .medium], [.erased .positionFailed, .erased .device],
      [.erased .medium, .good Block.zero]].map
      (fun os => normal.erasure small 0 (os.map fun o => { position := 1, row := 0, outcome := o }) 1 0) =
      [some .medium, some .medium, some .device, none] := by decide
/-- R68, R69: position 1 REBUILDING, stripe 0 covered: a refetched block that another channel delivered is placed, and
one without a note is not. -/
theorem test_refetch_otherChannel :
    let s := { restoring with rbc := { PassRecord.cold with
      state := .running, f := 1, n := 1, e := 10
      targets := [{ position := 1, channel := 5, start := 0, state := .active }] } }
    (s.fillBlock 1 1 0 Block.zero (some .way0) []).cbs = (s.place 1 0 Block.zero .way0).cbs ∧
    s.fillBlock 1 1 0 Block.zero none [] = s := by decide +kernel

/-! ## One step of the remaining commands -/

theorem test_coldStart_probes :
    ((after (.coldStart 0x001 { anyByte := false, cells := cells, countRose := false }) normal).channel 0).state =
      .probing := by decide +kernel
theorem test_scanEnd : (after .checkpointScanEnd State.reset).ali.taking = true := by decide
theorem test_restart_notTaken : (after (.identify 1) (after (.restart 2) opened)).ali.queue = [] := by decide
theorem test_defineArray_tooSmall :
    (after (.defineArray 1 4 8 1 10 ((List.range 4).map fun c => { state := 0, channel := c }))
      { normal with table := { definition := none } }).ali.queue = [.reply 1 .tooSmall .empty] := by decide
theorem test_resume_withoutRecord : (after (.resumeRebuild 1) degraded).ali.queue = [.reply 1 .noResume .empty] := by
  decide
theorem test_abort_idle : (after (.abortRebuild 1) (guarding 0x24 none normal)).ali.queue = [.reply 1 .wrongState .empty] := by
  decide
theorem test_cancel_notFound : (after (.cancel 1 7) normal).ali.queue = [.reply 1 .notFound .empty] := by decide
theorem test_restart_orphans :
    (((busy (.segment 30) readCmd 0 normal).channel 2).restarted.slots.get 0).map (fun x => x.work) =
      some (.orphan readCmd) := by decide
theorem test_removal_member :
    (after (.removal 2) normal).table.position 2 =
      some { state := .failed, channel := none, spare := none, cause := some .removed } := by decide +kernel
theorem test_write_timeout :
    (after (.commandTimeout 2 9) (busy (.segment 30) writeCmd 0 normal)).table.position 2 =
      some { state := .failed, channel := none, spare := none, cause := some .writeFailure } := by decide +kernel

/-- No array, and drives of just the size of the small one. -/
def undefinedArray : State := { normal with table := { definition := none } }
/-- What slot 0 of channel 2 holds in the states below. -/
def slotOf (o : Owner) (cmd : DriveCmd) (reissues : Nat) : Slot :=
  { tag := 9, allowance := 8000, work := .owned o cmd cmd.first [] reissues [] }

/-! ## Witnesses: for each statement with hypotheses, a state and operands that meet them

A part of a statement that has its own hypotheses has its own line. -/

theorem witness_StepRunsFrontCommand : (normal.withPending [.removal 2]).pending = .removal 2 :: [] := rfl
theorem witness_StepAlwaysContinues : normal.pending = [] := rfl
theorem witness_GeometryFixedBetweenDefinitions :
    exec (.failMember 1 2) (guarding 0x11 (some 2) normal) =
      .next (after (.failMember 1 2) (guarding 0x11 (some 2) normal)) ∧
    (∀ tag w k b0 n es, Instr.failMember 1 2 ≠ .defineArray tag w k b0 n es) ∧
    ∀ p l, Instr.failMember 1 2 ≠ .coldStart p l := ⟨rfl, by simp, by simp⟩
theorem witness_ArrayBlockRoundTrip :
    small.valid = true ∧ 0 < small.capacity ∧ 159 < small.capacity ∧ wide.valid = true ∧ 63999 < wide.capacity ∧
    0 < wide.w ∧ wide.memberToArray 0 2296 = some 1000 ∧ 2 < wide.w ∧ 2 = wide.posP (wide.memberStripe 2296) ∧
    2047 < wide.b0 ∧ wide.b0 + wide.s * wide.k ≤ 18048 := by decide
/-- The extent of Table 1-7: blocks 1000 to 1039, in two segments. -/
def twoSegments : ExtentReq := { entry 7 .read .gather noWork with first := 1000, count := 40 }
theorem witness_ArrayBlockRoundTrip_segments :
    wide.valid = true ∧ 1 ≤ twoSegments.count ∧ twoSegments.first + twoSegments.count ≤ wide.capacity ∧
    (∃ seg : Nat → ExtentReq, ∀ i, seg i = { twoSegments with segment := i }) ∧ 1 < wide.segments 1000 40 :=
  ⟨by decide, by decide, by decide, ⟨_, fun _ => rfl⟩, by decide⟩
theorem witness_CoefficientTables : (0x01 : Byte) ≠ 0 ∧ (0xFF : Byte) ≠ 0 ∧ (0 : Nat) < 1 ∧ (7 : Nat) < 8 := by decide

/-- Two data blocks. -/
def pair : List Block := [Block.fill 0x35, Block.fill 0xA7]
/-- Nine data blocks. -/
def nine : List Block := List.replicate 9 (Block.fill 0x12)

theorem witness_ReconstructionRecoversTwo :
    (∃ r : Row, 2 ≤ pair.length ∧ pair.length ≤ 9 ∧ r.data.length = pair.length ∧
      (∀ d b, d < pair.length → r.data.getD d none = some b → pair.getD d Block.zero = b) ∧
      (∀ b, r.p = some b → b = (encode pair).1) ∧ (∀ b, r.q = some b → b = (encode pair).2) ∧ r.erasedCount = 2) ∧
    (∃ r : Row, nine.length = 9 ∧ r.data.length = nine.length ∧
      (∀ d b, d < nine.length → r.data.getD d none = some b → nine.getD d Block.zero = b) ∧
      (∀ b, r.p = some b → b = (encode nine).1) ∧ (∀ b, r.q = some b → b = (encode nine).2) ∧ r.erasedCount = 2) ∧
    2 < ({ data := [none, none], p := none, q := some Block.zero } : Row).erasedCount := by
  refine ⟨⟨{ data := [none, none], p := some (encode pair).1, q := some (encode pair).2 }, by decide, by decide, rfl,
      ?_, by simp, by simp, rfl⟩,
    ⟨{ data := none :: List.replicate 8 (some (Block.fill 0x12)), p := none, q := some (encode nine).2 }, rfl, rfl,
      ?_, by simp, by simp, by decide⟩, by decide⟩
  · intro d b hd h
    match d, hd with
    | 0, _ => simp at h
    | 1, _ => simp at h
  · intro d b hd h
    have hd9 : d < 9 := hd
    clear hd
    interval_cases d <;> simp_all [nine]
theorem witness_DeltaAgreesWithEncoding : pair.length ≤ 9 ∧ 1 < pair.length ∧ nine.length ≤ 9 ∧ 8 < nine.length := by decide

/-- The definition of an array on the small geometry. -/
def defined (ps : List PosRec) : ArrayDef := { geom := small, positions := ps }

theorem witness_AvailabilityAndErasures_position :
    normal.table.definition = some (defined [member 0, member 1, member 2, member 3]) ∧
    [member 0, member 1, member 2, member 3][4]? = none ∧
    [member 0, member 1, member 2, member 3][0]? = some (member 0) ∧ (member 0).state = .inService ∧
    degraded.table.definition = some (defined [member 0, lacking (some 5), member 2, member 3]) ∧
    [member 0, lacking (some 5), member 2, member 3][1]? = some (lacking (some 5)) ∧ (lacking (some 5)).state = .failed ∧
    restoring.table.definition = some (defined [member 0, rebuilding 5, member 2, member 3]) ∧
    [member 0, rebuilding 5, member 2, member 3][1]? = some (rebuilding 5) ∧ (rebuilding 5).state = .rebuilding ∧
    2 < small.s ∧ 3 < small.s := by decide
/-- A cell of position 1, row 0. -/
def cell (o : BlockOutcome) : Cell := { position := 1, row := 0, outcome := o }
/-- The small array with block 0 of position 1 listed. -/
def blockLost : State :=
  { normal with lel := { entries := [{ position := 1, first := 0, count := 1, cause := .loaded }], limit := 16 } }

/-- A block obtained, one not obtained, one obtained and listed, one never sought. -/
theorem witness_AvailabilityAndErasures :
    (∃ listed obtained : Prop, (listed ↔ normal.lel.listed 1 (small.memberBlock 0 0) = true) ∧
      (obtained ↔ ∃ b, cell (.good b) ∈ [cell (.erased .device), cell (.good Block.zero)]) ∧ obtained ∧ ¬listed) ∧
    (∃ e, cell (.erased e) ∈ [cell (.erased .device), cell (.erased .medium)]) ∧
    (∀ b, cell (.good b) ∉ [cell (.erased .device), cell (.erased .medium)]) ∧
    blockLost.lel.listed 1 (small.memberBlock 0 0) = true ∧ cell (.good Block.zero) ∈ [cell (.good Block.zero)] ∧
    (∀ e, cell (.erased e) ∉ [cell (.good Block.zero)]) ∧ (∀ o, cell o ∉ ([] : List Cell)) :=
  ⟨⟨False, True, by simp; decide, by simp [cell], trivial, id⟩, ⟨.medium, by simp⟩, by simp [cell], by decide, by simp,
    by simp [cell], by simp⟩
theorem witness_LinkFrames :
    (Instr.failMember 42 2).wf = true ∧ hostFrame (.failMember 42 2) = some failMemberFrame ∧
    (Instr.clearAttention 1 0x80).wf = true ∧ (hostFrame (.clearAttention 1 0x80)).isSome = true ∧
    (Instr.defineArray 1 0 0 0 0 []).wf = true ∧ (hostFrame (.defineArray 1 0 0 0 0 [])).isSome = true ∧
    ∀ tag k b0 n es, Instr.defineArray 1 0 0 0 0 [] = .defineArray tag 0 k b0 n es → k = 0 ∧ b0 = 0 ∧ n = 0 := by
  refine ⟨by decide, by decide +kernel, by decide, by decide +kernel, by decide, by decide +kernel, ?_⟩
  intro tag k b0 n es h
  injection h with _ _ h3 h4 h5 _
  exact ⟨h3.symm, h4.symm, h5.symm⟩
/-- The functions that the bytes of frames are stated with; and the remainder that a frame leaves. -/
theorem witness_LinkFrames_sent :
    (∃ framed : Nat → Nat → Nat → List Byte → List Byte, ∀ kind tag code body, ∃ inner,
      inner = bytesOf 1 kind ++ bytesOf 2 tag ++ bytesOf 1 code ++ bytesOf 2 body.length ++ body ∧
      framed kind tag code body = inner ++ bytesOf 2 (crcOf inner).toNat) ∧
    (∃ (flag : Bool → List Byte) (number : Nat → Option Nat → List Byte), (∀ b, flag b = [if b = true then 1 else 0]) ∧
      (∀ n v, number n (some v) = bytesOf n v) ∧ ∀ n, number n none = []) ∧
    crcOf failMemberFrame = 0 ∧ probeError.kind = some .capacity ∧ probeError.owner = none := by
  refine ⟨⟨frameBytes, fun kind tag code body => ⟨_, rfl, rfl⟩⟩,
    ⟨fun b => [if b = true then 1 else 0], fun n => optBytes (bytesOf n), fun _ => rfl, fun _ _ => rfl, fun _ => rfl⟩,
    by decide +kernel, rfl, rfl⟩
theorem witness_BadFramesAnswered : opened.ali.taking = true ∧ State.reset.ali.taking = false := by decide

/-- A state in which a request that is not guarded has been answered: what a guarded request leaves. -/
def refused (code : Nat) (s : State) : State :=
  State.takeError 13
    { code := .unguarded, uncorrected := false, block := none, count := 0, kind := some (.request code),
      owner := some (.request 1) }
    (State.reply 1 .unguarded .empty { s with ali := { s.ali with guard := none } })

theorem witness_GuardsRecordedAndEnforced :
    (opened.ali.taking = true ∧ (1 : Nat) ≠ 0 ∧ 0x10 ∈ [0x10, 0x24, 0x59] ∧ 0x52 ∈ [0x11, 0x12, 0x13, 0x52] ∧
      10 ≤ 10 ∧ 10 < 11 ∧ 0x14 ∉ [0x10, 0x24, 0x59, 0x11, 0x12, 0x13, 0x52]) ∧
    (normal.ali.taking = true ∧ normal.agenda = [] ∧ normal.table.definition.isSome = true ∧
      (∃ t, t = refused 0x11 normal) ∧ normal.ali.guard ≠ some { code := 0x11, position := some 2 } ∧
      normal.ali.guard ≠ some { code := 0x24, position := none } ∧
      (guarding 0x11 (some 3) normal).ali.guard ≠ some { code := 0x11, position := some 2 }) ∧
    (guarding 0x11 (some 3) normal).ali.guard = some { code := 0x11, position := some 3 } ∧
    guardableCodes.contains 0x11 = true :=
  ⟨by decide, ⟨rfl, rfl, rfl, ⟨_, rfl⟩, by decide, by decide, by decide⟩, by decide, by decide⟩
/-- A guard held while no array is defined: a DEFINE-ARRAY that it does not name breaks it. -/
theorem witness_GuardsRecordedAndEnforced_undefined :
    (guarding 0x11 (some 3) undefinedArray).table.definition = none ∧
    (guarding 0x11 (some 3) undefinedArray).ali.guard = some { code := 0x11, position := some 3 } ∧
    ({ code := 0x11, position := some 3 } : Guard) ≠ { code := 0x10, position := none } ∧
    (∃ u, u = State.takeError 13
      { code := .guardBroken, uncorrected := false, block := none, count := 0, kind := some (.request 0x10),
        owner := some (.request 1) } { guarding 0x11 (some 3) undefinedArray with ali :=
          { (guarding 0x11 (some 3) undefinedArray).ali with guard := none } }) :=
  ⟨rfl, rfl, by decide, ⟨_, rfl⟩⟩
/-- R191: a WRITE-EXTENT breaks a guard, which is logged with its code. -/
theorem test_guard_broken_by_write :
    ((after (.writeExtent 9 0 1) (guarding 0x11 (some 3) normal)).eba.banks.get 13).record.map (fun e => e.kind) =
      some (some (.request 0x31)) := by decide +kernel
/-- An array of each state (R22), and channels that are members, a spare, and neither (R23). -/
theorem witness_ReadingRequestsOnlyReply_states :
    undefinedArray.table.definition = none ∧
    normal.table.definition = some (defined [member 0, member 1, member 2, member 3]) ∧
    degraded.table.definition = some (defined [member 0, lacking (some 5), member 2, member 3]) ∧
    ([member 0, lacking (some 5), member 2, member 3].filter fun p => p.state != .inService).length = 1 ∧
    ([member 0, lacking (some 5), lacking (some 6), member 3].filter fun p => p.state != .inService).length = 2 ∧
    ([member 0, lacking none, lacking none, lacking none].filter fun p => p.state != .inService).length = 3 ∧
    degraded.table.memberOf 2 = some 2 ∧ degraded.table.memberOf 5 = none ∧ degraded.table.spareOf 5 = some 1 ∧
    degraded.table.spareOf 2 = none := by decide
theorem witness_ReadingRequestsOnlyReply :
    normal.Asked 1 ∧ (guarding 0x11 (some 3) normal).Asked 1 ∧ normal.Open 1 ∧ 11 < 12 ∧ 14 < 15 ∧ 255 ≤ 255 ∧ 255 < 256 := by
  refine ⟨⟨rfl, by decide, ?_⟩, ⟨rfl, by decide, ?_⟩, ⟨rfl, by decide, rfl⟩, by decide, by decide, by decide, by decide⟩
  · intro g h
    cases h
  · intro g h
    cases h
    decide

/-- The counts of QUERY-CHANNEL and QUERY-STORE, and a latest record. -/
theorem witness_ReadingRequestsOnlyReply_counts :
    (∃ held : (SlotWork → Bool) → Nat, ∀ p, held p =
      ((List.finRange 4).filter fun i => ((normal.channel 2).slots.get i).any fun x => p x.work).length) ∧
    (∃ count : SlotStatus → Nat, ∀ x, count x =
      ((List.finRange 64).filter fun i => normal.cps.slotMap.get i == x).length) ∧
    ({ opened with cps := programming } : State).cps.latest = some (61, recordAt 1024) :=
  ⟨⟨_, fun _ => rfl⟩, ⟨_, fun _ => rfl⟩, by decide +kernel⟩

/-- A state with attention and a waiting NOTICE as given. -/
def noticing (latched : Byte) (noticing : Bool) (queue : List Frame) : State :=
  { normal with
    eba := { normal.eba with attention := latched, noticeWaiting := noticing }
    ali := { normal.ali with queue := queue } }
/-- The small array with idle lanes. -/
def silent : State := { normal with ali := { normal.ali with sending := none } }

theorem witness_FramesSentInOrder :
    ((noticing 0xA2 true []).ali.sending = some (.notice 0 0) ∧ (noticing 0xA2 true []).ali.restart = .none ∧
      (noticing 0xA2 true []).eba.noticeWaiting = true ∧ highestClass (noticing 0xA2 true []).eba.attention = some 1 ∧
      (noticing 0xA2 false [.data 1 0 none]).eba.noticeWaiting = false ∧
      (noticing 0xA2 false [.data 1 0 none]).ali.queue = .data 1 0 none :: [] ∧
      (noticing 0 true []).eba.attention = 0 ∧ (noticing 0 true []).ali.queue = []) ∧
    normal.Open 1 ∧ normal.ali.sending = some (.notice 0 0) ∧ silent.Open 1 ∧ silent.ali.sending = none :=
  ⟨by decide, ⟨rfl, by decide, rfl⟩, rfl, ⟨rfl, by decide, rfl⟩, rfl⟩

/-- The small array with the OK reply of a RESTART in transmission. -/
def restarting : State :=
  { restoring with
    ali := { restoring.ali with taking := false, sending := some (.reply 1 .ok .empty), restart := .sending } }

/-- Idle lanes with a RESTART's reply queued, with a NOTICE that waits, and with neither. -/
theorem witness_FramesSentInOrder_handed :
    silent.ali.sending = none ∧ silent.ali.restart = .none ∧
    ({ silent with ali := { silent.ali with restart := .queued 4 } } : State).ali.restart = .queued 4 ∧
    ({ silent with eba := { silent.eba with noticeWaiting := true, attention := 0xA2 } } : State).eba.noticeWaiting = true ∧
    highestClass 0xA2 = some 1 ∧ silent.eba.noticeWaiting = false ∧
    silent.ali.queue ++ [.notice 0 0] = .notice 0 0 :: [] := by decide

/-- A store with slot 62 under program, the store of a restart in an erase cycle, and a probe, an owned READ, an owned
WRITE and an orphan in slots. -/
theorem witness_RestartContents_work :
    ({ restarting with cps := programming } : State).cps.op = .program 62 (recordAt 2048) ∧
    ({ restarting with cps := { programming with op := .erase .area (some 5) } } : State).cps.op = .erase .area (some 5) ∧
    ((busy (.segment 30) readCmd 0 restarting).channel 2).slots.get 0 = some (slotOf (.segment 30) readCmd 0) ∧
    (slotOf (.segment 30) readCmd 0).work = .owned (.segment 30) readCmd 0 [] 0 [] ∧ readCmd.op = .read [] ∧
    ((busy (.segment 30) writeCmd 0 restarting).channel 2).slots.get 0 = some (slotOf (.segment 30) writeCmd 0) ∧
    writeCmd.op = .write [Block.fill 0x35] [true] ∧ ((drive 16).slots.get 0 = none) ∧
    (∃ slot, (Channel.cold.Probing true).slots.get 0 = some slot ∧ slot.work = .probe) ∧
    (slotOf (.segment 30) readCmd 0).orphaned.work = .orphan readCmd :=
  ⟨rfl, rfl, rfl, rfl, rfl, rfl, rfl, rfl, ⟨_, rfl, rfl⟩, rfl⟩
/-- R61: what remains of a READ that has been reissued from block 5 on becomes an orphan. -/
theorem test_orphan_remainder :
    ({ tag := 9, allowance := 8000, work := .owned (.segment 30) readCmd 5 [] 1 [] } : Slot).orphaned =
      { tag := 9, allowance := 8000, work := .orphan { position := 2, first := 5, count := 11, op := .read [] } } := by
  decide

theorem witness_RestartContents :
    restarting.ali.sending = some (.reply 1 .ok .empty) ∧ restarting.ali.restart = .sending ∧
    restarting.table.position 1 = some (rebuilding 5) ∧ restarting.cps.op = .none := by decide

/-- A state whose bank 3 has a counter, a record, a reporting enable and an auto-fail enable as given. -/
def banked (counter : Nat) (record : Option ErrorFields) (report autoFail : Bool) : State :=
  { normal with eba := { normal.eba with
    banks := normal.eba.banks.set 3
      { Bank.cold with counter := counter, record := record, report := report, autoFail := autoFail } } }

theorem witness_ErrorTakenWhole :
    (∃ t, t = (banked 4094 none true true).takeError 3 probeError) ∧
    ((banked 4094 none true true).eba.banks.get 3).record = none ∧
    ((banked 4094 none true true).eba.banks.get 3).counter = 4094 ∧ 3 = channelBank 3 ∧
    ((banked 4094 none true true).eba.banks.get 3).autoFail = true ∧ 12 ≤ (12 : Fin 15).val ∧
    ((banked 4094 none true false).eba.banks.get 3).autoFail = false ∧
    ((banked 4095 (some probeError) false true).eba.banks.get 3).record = some probeError ∧
    ((banked 4095 (some probeError) false true).eba.banks.get 3).counter ≤ 4095 ∧
    ((banked 4095 (some probeError) false true).eba.banks.get 3).counter ≠ 4094 ∧
    ((banked 4095 (some probeError) false true).eba.banks.get 3).report = false ∧
    ((banked 4094 none true true).eba.banks.get 3).report = true ∧ (4 : Fin 15) ≠ 3 := ⟨⟨_, rfl⟩, by decide⟩
/-- The bank replaced and the latches, on a channel bank with its demand. -/
theorem witness_ErrorTakenWhole_latches :
    ∃ (b : Bank) (u v : State), b = (banked 4094 none true true).eba.banks.get 3 ∧ b.counter = 4094 ∧ b.autoFail = true ∧
      u = { banked 4094 none true true with eba := { (banked 4094 none true true).eba with
        banks := (banked 4094 none true true).eba.banks.set 3 { b with
          record := some (b.record.getD probeError), overflow := b.overflow || b.record.isSome
          counter := if b.counter < 4095 then b.counter + 1 else b.counter
          reached := b.reached || decide (b.counter = 4094) } } } ∧
      v = State.later (.demand 3) (u.latch .threshold) := ⟨_, _, _, rfl, rfl, rfl, rfl, rfl⟩
theorem witness_BankRequests : normal.Open 1 ∧ 1 ≤ 1 ∧ 14 < 15 ∧ 1 < 2 :=
  ⟨⟨rfl, by decide, rfl⟩, by decide, by decide, by decide⟩
theorem witness_AttentionLatchedAndCleared :
    (noticing 0xA2 true []).eba.attention.getLsbD (Attention.number .threshold) = true ∧
    (noticing 0xA2 true []).eba.attention.getLsbD (Attention.number .arrayLost) = false ∧
    (noticing 0xA2 true []).ali.sending = some (.notice 0 0) ∧ (noticing 0xA2 true []).Open 1 :=
  ⟨by decide, by decide, by decide, ⟨rfl, by decide, rfl⟩⟩

/-- A clear class on idle lanes, with no NOTICE waiting, with one, and with a RESTART's reply queued. -/
theorem witness_AttentionLatchedAndCleared_idle :
    silent.eba.attention.getLsbD (Attention.number .arrayLost) = false ∧ silent.ali.sending = none ∧
    (∃ set : Byte, set = silent.eba.attention ||| (1 : Byte) <<< Attention.number .arrayLost) ∧
    silent.eba.noticeWaiting = false ∧ (∀ tag, silent.ali.restart ≠ .queued tag) ∧
    ({ silent with eba := { silent.eba with noticeWaiting := true } } : State).eba.noticeWaiting = true ∧
    ({ silent with ali := { silent.ali with restart := .queued 4 } } : State).ali.restart = .queued 4 ∧
    highestClass 0x22 = some 1 ∧ highestClass 0 = none :=
  ⟨by decide, rfl, ⟨_, rfl⟩, rfl, nofun, rfl, rfl, by decide, by decide⟩

/-- Positions 0 to 2 on channels 0 to 2, and position 3 FAILED. -/
def entries : List PositionEntry :=
  [{ state := 0, channel := 0 }, { state := 0, channel := 1 }, { state := 0, channel := 2 }, { state := 1, channel := 0 }]
/-- One position, which names a channel. -/
def onChannel (c : Nat) : List PositionEntry := [{ state := 0, channel := c }]

theorem witness_ArrayDefined :
    ((undefinedArray.Open 1 ∧ undefinedArray.table.definition = none) ∧ undefinedArray.rbc.state = .idle ∧
      undefinedArray.esu.requests = [] ∧ 4 ≤ small.w ∧ small.w ≤ 11 ∧ small.k ∈ [8, 16, 32, 64] ∧ small.b0 ≤ 1048575 ∧
      1 ≤ small.s ∧ small.s ≤ 2147483648 ∧ (∀ e ∈ entries, e.state = 0 ∨ e.state = 1) ∧
      ((entries.filter fun e => e.state == 0).map fun e => e.channel).Nodup ∧
      (∀ e ∈ entries, e.state = 0 → ∃ (c : Chan) (n : Nat), e.channel = c.val ∧ (undefinedArray.channel c).state = .ready ∧
        (undefinedArray.channel c).capacity = some n ∧ small.b0 + small.s * small.k ≤ n)) ∧
    (guarding 0x10 none normal).GuardedBy 1 0x10 none ∧ (guarding 0x10 none normal).table.definition.isSome = true ∧
    (guarding 0x10 none normal).rbc.state = .idle ∧ (guarding 0x10 none normal).esu.requests = [] := by
  refine ⟨⟨⟨⟨rfl, by decide, rfl⟩, rfl⟩, rfl, rfl, by decide, by decide, by decide, by decide, by decide, by decide,
    by decide, by decide, ?_⟩, ⟨rfl, by decide, rfl⟩, rfl, rfl, rfl⟩
  intro e he h0
  simp only [entries, List.mem_cons, List.not_mem_nil, or_false] at he
  rcases he with rfl | rfl | rfl | rfl
  · exact ⟨0, 80, rfl, rfl, rfl, by decide⟩
  · exact ⟨1, 80, rfl, rfl, rfl, by decide⟩
  · exact ⟨2, 80, rfl, rfl, rfl, by decide⟩
  · exact absurd h0 (by decide)
/-- The refusals of DEFINE-ARRAY: a pass, requests, a width, an entry, a channel twice, an EMPTY channel, a drive too
small. -/
theorem witness_ArrayDefined_refused :
    (passing (running 0 0) undefinedArray).Open 1 ∧ (passing (running 0 0) undefinedArray).rbc.state ≠ .idle ∧
    (holding [waiting] undefinedArray).esu.requests ≠ [] ∧ undefinedArray.rbc.state = .idle ∧
    undefinedArray.esu.requests = [] ∧ ¬(4 ≤ 3) ∧
    ¬(∀ e ∈ onChannel 12, e.state ≤ 1 ∧ (e.state = 0 → e.channel ≤ 11)) ∧
    (∀ e ∈ onChannel 11 ++ onChannel 0, e.state ≤ 1 ∧ (e.state = 0 → e.channel ≤ 11)) ∧
    ¬(((onChannel 0 ++ onChannel 0).filter fun e => e.state == 0).map fun e => e.channel).Nodup ∧
    (((onChannel 11).filter fun e => e.state == 0).map fun e => e.channel).Nodup ∧
    (undefinedArray.channel 11).state ≠ .ready ∧ (undefinedArray.channel 0).state = .ready ∧
    (undefinedArray.channel 0).capacity = some 80 ∧ 80 < 1 + 10 * 8 :=
  ⟨⟨rfl, by decide, rfl⟩, by decide⟩

theorem witness_MembersChangedByRequest :
    (guarding 0x11 (some 1) normal).GuardedBy 1 0x11 (some 1) ∧ (guarding 0x11 (some 1) normal).agenda = [] ∧
    (guarding 0x11 (some 1) normal).table.definition = some (defined [member 0, member 1, member 2, member 3]) ∧
    1 < small.w ∧ [member 0, member 1, member 2, member 3][1]? = some (member 1) ∧ (member 1).state ≠ .failed ∧
    (guarding 0x11 (some 1) degraded).GuardedBy 1 0x11 (some 1) ∧
    (guarding 0x11 (some 1) degraded).table.definition =
      some (defined [member 0, lacking (some 5), member 2, member 3]) ∧ (lacking (some 5)).state = .failed ∧
    (guarding 0x12 (some 1) unspared).GuardedBy 1 0x12 (some 1) ∧
    unspared.table.definition = some (defined [member 0, lacking none, member 2, member 3]) ∧
    unspared.table.memberOf 4 = none ∧ unspared.table.spareOf 4 = none ∧ (unspared.channel 4).state = .ready ∧
    small.b0 + small.s * small.k ≤ (unspared.channel 4).capacity.getD 0 ∧
    (guarding 0x13 (some 1) unspared).GuardedBy 1 0x13 (some 1) ∧ (lacking none).spare = none ∧
    degraded.table.spareOf 5 = some 1 :=
  ⟨⟨rfl, by decide, rfl⟩, rfl, rfl, by decide, rfl, by decide, ⟨rfl, by decide, rfl⟩, rfl, rfl, ⟨rfl, by decide, rfl⟩, rfl,
    rfl, rfl, rfl, by decide, ⟨rfl, by decide, rfl⟩, rfl, rfl⟩
/-- Their refusals: no array, a position or a channel out of range, a channel in use or EMPTY, a drive too small. -/
theorem witness_MembersChangedByRequest_refused :
    (guarding 0x11 (some 1) undefinedArray).GuardedBy 1 0x11 (some 1) ∧ undefinedArray.table.definition = none ∧
    (guarding 0x12 (some 4) normal).GuardedBy 1 0x12 (some 4) ∧ small.w ≤ 4 ∧ 11 < 12 ∧
    degraded.table.memberOf 2 = some 2 ∧ unspared.table.memberOf 11 = none ∧ unspared.table.spareOf 11 = none ∧
    (unspared.channel 11).state ≠ .ready ∧
    ((unspared.putChannel 4 (drive 79)).channel 4).state = .ready ∧
    ¬(small.b0 + small.s * small.k ≤ ((unspared.putChannel 4 (drive 79)).channel 4).capacity.getD 0) :=
  ⟨⟨rfl, by decide, rfl⟩, rfl, ⟨rfl, by decide, rfl⟩, by decide⟩
theorem witness_PositionFailureEffects :
    (∃ t, normal.table.position 2 = some (member 2) ∧ normal.geom = some small ∧
      t = normal.failPosition 2 (member 2) .removed) ∧
    (member 2).channel = some 2 ∧ (3 : Nat) ≠ 2 ∧ (lacking none).channel = none ∧ (member 2).state ≠ .rebuilding ∧
    unspared.table.position 1 = some (lacking none) ∧ (rebuilding 5).state = .rebuilding ∧
    restoring.table.position 1 = some (rebuilding 5) ∧
    degradedTwice.table.position 3 = some (member 3) ∧ degradedTwice.table.state ≠ .failed ∧
    (degradedTwice.failPosition 3 (member 3) .host).table.state = .failed ∧
    (∃ ended : Owner → DriveCmd → List BlockOutcome → List (Nat × Nat) → Task, ∀ o cmd outs sh,
      (∀ notes, cmd.op = .read notes → ended o cmd outs sh = .readDone o cmd (member 2).channel
        (outs ++ List.replicate (cmd.count - outs.length) (.erased .positionFailed)) sh) ∧
      ∀ bs flags, cmd.op = .write bs flags → ended o cmd outs sh = .writeDone o) := by
  refine ⟨⟨_, rfl, rfl, rfl⟩, rfl, by decide, rfl, by decide, rfl, rfl, rfl, rfl, by decide, by decide +kernel,
    fun o cmd outs sh => match cmd.op with
      | .read _ => .readDone o cmd (some 2)
          (outs ++ List.replicate (cmd.count - outs.length) (.erased .positionFailed)) sh
      | .write _ _ => .writeDone o, fun o cmd outs sh => ⟨?_, ?_⟩⟩
  · intro notes h
    simp only [h, member]
  · intro bs flags h
    simp only [h]
/-- The failure of the array: each state of a pass, and the functions that say which waiters stay and what becomes of a
request. -/
theorem witness_PositionFailureEffects_array :
    restoring.rbc.state = .idle ∧ (passing (running 0 0) restoring).rbc.state ∈ [PassState.running, .pausing, .paused] ∧
    (passing { running 0 0 with state := .stopping } restoring).rbc.state = .stopping ∧
    (∃ kept : Requester → Bool, ∀ q, kept q = true ↔
      ∀ tag r, q = .extent tag → normal.request tag = some r → r.state ≠ .lockWait) ∧
    ∃ fails : State → ExtentReq → State, ∀ v r,
      (r.state = .lockWait → fails v r = State.later
        (.frame (.reply r.tag .arrayFailed (.extent r.blocksDone r.lostCount r.firstLost)))
        (State.dropRequest r.tag (v.giveUp (.extent r.tag)))) ∧
      (r.state = .dataWait → fails v r = State.later
        (.frame (.reply r.tag .arrayFailed (.extent r.blocksDone r.lostCount r.firstLost)))
        (State.dropRequest r.tag (v.unlock (.extent r.tag)))) ∧
      (r.state ∈ [ExtentState.gather, .compute, .writeOut, .send] → fails v r = State.later (.segment r.tag)
        (v.putRequest { r with endPending := some .arrayFailed })) := by
  refine ⟨rfl, by decide, rfl, ⟨fun _ => true, fun q => ⟨fun _ _ _ _ h => (nomatch h), fun _ => rfl⟩⟩,
    fun v r => v.failRequest r, fun v r => ⟨fun h => ?_, fun h => ?_, fun h => ?_⟩⟩
  · simp only [State.failRequest, h, State.endRequest, ExtentReq.finalReply]
  · simp only [State.failRequest, h, State.endRequest, ExtentReq.finalReply]
  · cases hr : r.state <;> simp_all [State.failRequest]
/-- R36, R115, R140: the third failure makes the array FAILED; a write in DATA-WAIT ends ARRAY-FAILED. -/
theorem test_array_fails :
    let t := after (.failMember 1 3) (guarding 0x11 (some 3) (holding [waiting] degradedTwice))
    t.eba.attention = 0x03 ∧ t.esu.requests = [] ∧ .reply 7 .arrayFailed (.extent 0 0 none) ∈ t.ali.queue := by
  decide +kernel
theorem witness_DemandJudged :
    normal.table.memberOf 11 = none ∧
    degraded.table.memberOf 2 = some 2 ∧ degraded.table.position 2 = some (member 2) ∧ (member 2).state = .inService ∧
    degraded.table.lacking ≤ 1 ∧ degradedTwice.table.memberOf 3 = some 3 ∧ 2 ≤ degradedTwice.table.lacking ∧
    restoring.table.memberOf 5 = some 1 ∧ restoring.table.position 1 = some (rebuilding 5) ∧
    restoring.table.state ≠ .failed ∧
    (arrayOf small [lacking none, rebuilding 5, lacking none, member 3]).table.state = .failed := by decide

/-- The record of a pass on the small array that has come to pass position 4. -/
def halfway : CheckpointRecord :=
  { number := 3, geom := small, targets := [{ position := 1, channel := 5, start := 0, state := .active }], f := 4, e := 10,
    result := .none }
/-- A state with a record in slot 0. -/
def recorded (r : CheckpointRecord) (s : State) : State :=
  { s with cps := { s.cps with
    nv := { s.cps.nv with slots := s.cps.nv.slots.set 0 { body := .record r, marker := 0x5A } }
    slotMap := s.cps.slotMap.set 0 .written } }
/-- The small array with that record. -/
def resumable : State := recorded halfway degraded

theorem witness_PassBegins_start :
    (∃ fresh : List Target → PassRecord, degradedTwice.Open 1 ∧ degradedTwice.rbc.state = .idle ∧
      degradedTwice.table.definition = some (defined [member 0, lacking (some 5), lacking (some 6), member 3]) ∧
      degradedTwice.table.state ≠ .failed ∧
      ∀ ts, fresh ts = { state := .running,
                         number := match degradedTwice.cps.latest with
                           | some (_, r) => if r.number = 4294967295 then 1 else r.number + 1
                           | none => 1
                         targets := ts, doneTargets := [], f := 0, n := 0, e := small.s, stopCause := none,
                         lastResult := .none, rowsReconstructed := 0, rowsUnrecoverable := 0, repairs := 0,
                         window := [] }) ∧
    1 < 2 ∧ 2 < small.w ∧ (lacking (some 5)).spare = some 5 ∧ (lacking (some 6)).spare = some 6 :=
  ⟨⟨fun ts => { state := .running,
                number := match degradedTwice.cps.latest with
                  | some (_, r) => if r.number = 4294967295 then 1 else r.number + 1
                  | none => 1
                targets := ts, doneTargets := [], f := 0, n := 0, e := small.s, stopCause := none,
                lastResult := .none, rowsReconstructed := 0, rowsUnrecoverable := 0, repairs := 0, window := [] },
    ⟨rfl, by decide, rfl⟩, rfl, rfl, by decide, fun _ => rfl⟩, by decide, by decide, rfl, rfl⟩
theorem witness_PassBegins_resume :
    resumable.Open 1 ∧ resumable.rbc.state = .idle ∧
    resumable.table.definition = some (defined [member 0, lacking (some 5), member 2, member 3]) ∧
    resumable.table.state ≠ .failed ∧ resumable.cps.latest = some (0, halfway) ∧ halfway.result = .none ∧
    halfway.geom = small ∧
    (∀ a ∈ halfway.targets, a.state = .active → ∃ p, resumable.table.position a.position = some p ∧
      p.state = .failed ∧ p.spare = some a.channel) := by
  refine ⟨⟨rfl, by decide, rfl⟩, rfl, rfl, by decide, by decide +kernel, rfl, rfl, ?_⟩
  intro a ha _
  simp only [halfway, List.mem_cons, List.not_mem_nil, or_false] at ha
  subst ha
  exact ⟨lacking (some 5), rfl, rfl, rfl⟩
/-- The refusals of START-REBUILD: no position, one out of range, one twice; a pass; no array, a FAILED one; an
IN-SERVICE position, one without a spare. -/
theorem witness_PassBegins_startRefused :
    degraded.Open 1 ∧ degraded.agenda = [] ∧ ([] : List Nat).length ≠ 1 ∧ ([] : List Nat).length ≠ 2 ∧ small.w ≤ 4 ∧
    ¬[1, 1].Nodup ∧ [1].Nodup ∧ (passing (running 0 0) restoring).rbc.state ≠ .idle ∧ degraded.rbc.state = .idle ∧
    undefinedArray.table.definition = none ∧ broken.table.definition ≠ none ∧ broken.table.state = .failed ∧
    degraded.table.position 0 = some (member 0) ∧ (member 0).state ≠ .failed ∧
    unspared.table.position 1 = some (lacking none) ∧ (lacking none).spare = none :=
  ⟨⟨rfl, by decide, rfl⟩, by decide⟩
/-- The refusals of RESUME-REBUILD: no record, one that has a result, one of another array, one whose target has another
spare. -/
theorem witness_PassBegins_resumeRefused :
    degraded.Open 1 ∧ degraded.cps.latest = none ∧
    (recorded { halfway with result := .completed } degraded).cps.latest = some (0, { halfway with result := .completed }) ∧
    PassResult.completed ≠ .none ∧
    (recorded { halfway with geom := wide } degraded).cps.latest = some (0, { halfway with geom := wide }) ∧ wide ≠ small ∧
    (recorded halfway unspared).cps.latest = some (0, halfway) ∧ (lacking none).spare ≠ some 5 :=
  ⟨⟨rfl, by decide, rfl⟩, by decide +kernel, by decide +kernel, by decide, by decide +kernel, by decide, by decide +kernel,
    by decide⟩

/-- A pass onto position 1 while position 2 is FAILED with a spare. -/
def joining : State :=
  passing (running 1 9) (arrayOf small [member 0, rebuilding 5, lacking (some 6), member 3])
/-- A pass with two targets. -/
def twoTargets : State :=
  passing
    { running 2 10 with
      targets := [{ position := 1, channel := 5, start := 0, state := .active },
                  { position := 2, channel := 6, start := 3, state := .active }] }
    (arrayOf small [member 0, rebuilding 5, rebuilding 6, member 3])

theorem witness_TargetsAddedAndLost :
    joining.Open 1 ∧ joining.rbc.state ∈ [PassState.running, .pausing, .paused] ∧
    joining.rbc.targets = [{ position := 1, channel := 5, start := 0, state := .active }] ∧ joining.rbc.n < small.s ∧
    joining.table.definition = some (defined [member 0, rebuilding 5, lacking (some 6), member 3]) ∧ 2 < small.w ∧
    (lacking (some 6)).state = .failed ∧ (lacking (some 6)).spare = some 6 ∧
    twoTargets.rbc.targets = [{ position := 1, channel := 5, start := 0, state := .active },
                              { position := 2, channel := 6, start := 3, state := .active }] ∧ (1 : Nat) ≠ 2 :=
  ⟨⟨rfl, by decide, rfl⟩, by decide, rfl, by decide, rfl, by decide, rfl, rfl, by decide, by decide⟩
/-- The last ACTIVE target: the only one, or the second after the first is LOST; a pass in progress and one that is
STOPPING. -/
theorem witness_TargetsAddedAndLost_last :
    (∀ a ∈ (passing (running 0 0) restoring).rbc.targets, a.state = .active → a.position = 1) ∧
    (∀ a ∈ ([{ position := 1, channel := 5, start := 0, state := .lost },
             { position := 2, channel := 6, start := 3, state := .active }] : List Target),
      a.state = .active → a.position = 2) ∧
    (passing (running 0 0) restoring).rbc.state.working = true ∧
    (passing { running 0 0 with state := .stopping } restoring).rbc.state.working = false ∧
    ∃ cut : State → Job → State, ∀ v j,
      (j.state = .complete ∨ j.state = .failed → cut v j = v) ∧
      (j.state = .locking →
        cut v j = State.giveUp (.job j.k) (v.putJob { j with state := .failed, cutShort := true })) ∧
      (j.state ∈ [JobState.reading, .computing, .writing] →
        cut v j = State.later (.job j.k) (v.putJob { j with cutShort := true })) := by
  refine ⟨by decide, by decide, rfl, rfl, fun v j => v.cutJob j, fun v j => ?_⟩
  cases h : j.state <;> simp [State.cutJob, JobState.ended, h]
/-- R139: the loss of the only target stops the pass and withdraws a LOCKING job. -/
theorem test_lastTarget_lost :
    let t := (passing { running 0 1 with window := [jobAt 0 .locking] } restoring).targetLost 1 small
    t.rbc.state = .stopping ∧ t.rbc.stopCause = some .abortedTargetsLost ∧
      t.rbc.window.map (fun j => j.state) = [.failed] := by decide +kernel
/-- The refusals of ADD-TARGET: no array, a position out of range; no pass, two targets, N at S, an IN-SERVICE
position. -/
theorem witness_TargetsAddedAndLost_refused :
    joining.Open 1 ∧ joining.agenda = [] ∧ undefinedArray.table.definition = none ∧ small.w ≤ 4 ∧ 2 < small.w ∧
    degradedTwice.rbc.state ∈ [PassState.idle, .stopping] ∧ twoTargets.rbc.targets.length ≠ 1 ∧
    small.s ≤ (passing (running 2 10) joining).rbc.n ∧ joining.table.position 3 = some (member 3) ∧
    (member 3).state ≠ .failed := ⟨⟨rfl, by decide, rfl⟩, by decide⟩
theorem witness_PassSteered :
    (passing { running 0 1 with window := [jobAt 0 .reading] } restoring).Open 1 ∧
    (passing { running 0 1 with window := [jobAt 0 .reading] } restoring).rbc.state = .running ∧
    (passing { running 0 1 with window := [jobAt 0 .reading] } restoring).rbc.window ≠ [] ∧
    (passing (running 0 0) restoring).rbc.window = [] ∧
    (passing { running 0 1 with state := .paused } restoring).rbc.state = .paused ∧ restoring.rbc.state = .idle ∧
    (passing { running 0 1 with state := .stopping } restoring).rbc.state = .stopping ∧ restoring.agenda = [] ∧
    (guarding 0x24 none (passing (running 0 0) restoring)).GuardedBy 1 0x24 none ∧
    (guarding 0x24 none restoring).GuardedBy 1 0x24 none ∧
    (passing (running 0 0) restoring).rbc.state ∈ [PassState.running, .pausing, .paused] :=
  ⟨⟨rfl, by decide, rfl⟩, rfl, by decide, rfl, rfl, rfl, rfl, rfl, ⟨rfl, by decide, rfl⟩, ⟨rfl, by decide, rfl⟩, by decide⟩
theorem witness_JobsStartToTheWindow :
    (∃ t, (passing (running 0 0) restoring).geom = some small ∧
      (passing (running 0 0) restoring).rbc.state = .running ∧ t = (passing (running 0 0) restoring).startJobs) ∧
    (running 0 8).n ≤ (running 0 8).f + 8 ∧ (running 2 10).n ≤ (running 2 10).e := ⟨⟨_, rfl, rfl, rfl⟩, by decide, by decide⟩

/-- A pass that is not RUNNING, and a target whose range holds pass position 0. -/
theorem witness_JobsStartToTheWindow_targets :
    restoring.rbc.state ≠ .running ∧
    (∃ a ∈ (passing (running 0 0) restoring).rbc.targets, a.position = 1 ∧ a.state = .active ∧ a.start ≤ 0 ∧
      0 < a.start + small.s) ∧
    (passing (running 0 0) restoring).rbc.targetSet small 0 = [1] := by decide

/-- A pass onto position 1 with one job. -/
def working (j : Job) : State := passing { running 0 1 with window := [j] } restoring
/-- The rows of a job on stripe 0 with nothing obtained, worked through from the first: the state before each. -/
def throughRows (j : Job) (s : State) : Nat → State
  | 0 => s
  | n + 1 => ((throughRows j s n).jobRow j small n).2.2
/-- A row of stripe 0 with its two data blocks obtained: positions 1 and 2. -/
def halfRow : List Cell :=
  [{ position := 1, row := 0, outcome := .good (Block.fill 0x35) },
   { position := 2, row := 0, outcome := .good (Block.fill 0xA7) }]

theorem witness_RebuildJobWorks :
    (working (jobAt 0 .locking)).jobOf 0 = some (jobAt 0 .locking) ∧ (working (jobAt 0 .locking)).geom = some small ∧
    ({ jobAt 0 .reading with outstanding := 1 } : Job).outstanding ≠ 0 ∧
    ({ jobAt 0 .reading with cutShort := true } : Job).cutShort = true ∧
    (working (jobAt 0 .writing)).jobOf 0 = some (jobAt 0 .writing) ∧
    (working (jobAt 0 .reading)).jobOf 0 = some (jobAt 0 .reading) ∧ (jobAt 0 .reading).outstanding = 0 ∧
    (jobAt 0 .reading).cutShort = false := ⟨rfl, rfl, by decide, rfl, rfl, rfl, rfl, rfl⟩
/-- Every row of the job is UNRECOVERABLE and listed. -/
theorem witness_RebuildJobWorks_rows :
    ∃ (w : Nat → State) (out : Nat → RowOutcome), w 0 = (working (jobAt 0 .reading)).putJob (jobAt 0 .computing) ∧
      (∀ i < 8, (w i).jobRow (jobAt 0 .computing) small i = (out i, true, w (i + 1))) ∧ 8 = small.k := by
  refine ⟨throughRows (jobAt 0 .computing) ((working (jobAt 0 .reading)).putJob (jobAt 0 .computing)),
    fun i => ((throughRows (jobAt 0 .computing) ((working (jobAt 0 .reading)).putJob (jobAt 0 .computing)) i).jobRow
      (jobAt 0 .computing) small i).1, rfl, ?_, rfl⟩
  have h : ∀ i < 8, ((throughRows (jobAt 0 .computing) ((working (jobAt 0 .reading)).putJob (jobAt 0 .computing)) i).jobRow
      (jobAt 0 .computing) small i).2.1 = true := by decide +kernel
  intro i hi
  exact Prod.ext rfl (Prod.ext (h i hi) rfl)
/-- A pass with a job that computes, and a full list. -/
def hemmed : State :=
  { working (jobAt 0 .computing) with
    lel := { limit := 16, entries :=
      (List.range 16).map fun i => { position := 3, first := 2 * i, count := 1, cause := .loaded } } }

/-- The list is full at the first row. -/
theorem witness_RebuildJobWorks_listFull :
    (∃ o v, hemmed.jobRow (jobAt 0 .computing) small 0 = (o, false, v)) ∧
    (jobAt 0 .computing).targets.filter
      (fun x => hemmed.rbc.targets.any fun t => t.position == x && t.state == .active) = [1] ∧
    reconstruct (hemmed.rowOf small 0 [] 0) = none ∧ reconstruct (hemmed.rowOf small 0 halfRow 0) ≠ none ∧
    (hemmed.addLost 1 (small.memberBlock 0 0) 1 .unrecoverableRow).1 = false := by
  refine ⟨⟨_, _, Prod.ext rfl (Prod.ext ?_ rfl)⟩, ?_⟩ <;> decide +kernel

/-- A pass with jobs 0 and 1 COMPLETE and job 2 still reading. -/
def advancing : State :=
  passing { running 0 3 with window := [jobAt 0 .complete, jobAt 1 .complete, jobAt 2 .reading] } restoring

/-- A pass with job 9 COMPLETE at the end of target 1's range, and target 2 still ACTIVE behind it. -/
def arriving (e : Nat) (state : PassState) : State :=
  passing
    { twoTargets.rbc with f := 9, n := 10, e := e, state := state, window := [jobAt 9 .complete] } twoTargets

theorem witness_FrontierAdvances :
    (∀ j js, (working (jobAt 0 .reading)).rbc.window = j :: js → j.state ≠ .complete) ∧
    (advancing.geom = some small ∧
      advancing.rbc.window = [jobAt 0 .complete, jobAt 1 .complete] ++ [jobAt 2 .reading] ∧
      (∀ j ∈ [jobAt 0 .complete, jobAt 1 .complete], j.state = .complete) ∧
      (∀ j js, [jobAt 2 .reading] = j :: js → j.state ≠ .complete) ∧
      [] = advancing.rbc.targets.filter
        (fun a => a.state == .active && decide (a.start + small.s ≤ advancing.rbc.f + 2)) ∧
      advancing.rbc.f + 2 ≠ advancing.rbc.e ∧ advancing.rbc.state ≠ .pausing) ∧
    ((arriving 13 .pausing).geom = some small ∧ (arriving 13 .pausing).rbc.window = [jobAt 9 .complete] ++ [] ∧
      (jobAt 9 .complete).state = .complete ∧
      [{ position := 1, channel := 5, start := 0, state := .active }] = (arriving 13 .pausing).rbc.targets.filter
        (fun a => a.state == .active && decide (a.start + small.s ≤ (arriving 13 .pausing).rbc.f + 1)) ∧
      (arriving 13 .pausing).rbc.f + 1 ≠ (arriving 13 .pausing).rbc.e ∧ (arriving 13 .pausing).rbc.state = .pausing) ∧
    (arriving 10 .running).rbc.f + 1 = (arriving 10 .running).rbc.e ∧ 9 / 5 < (9 + 1) / 5 := by
  refine ⟨?_, ⟨rfl, rfl, by decide, ?_, by decide, by decide, by decide⟩,
    ⟨rfl, rfl, rfl, by decide, by decide, rfl⟩, by decide, by decide⟩ <;> (intro j js h; cases h; decide)
/-- R128, R132: target 1 is DONE, its position IN-SERVICE, and the PAUSING pass PAUSED. -/
theorem test_frontier_done :
    let t := (arriving 13 .pausing).advanceFrontier
    t.rbc.f = 10 ∧ t.rbc.state = .paused ∧ t.rbc.targets.map (fun a => a.position) = [2] ∧
      t.table.position 1 = some (member 5) ∧ t.cps.state = .programming ∧ t.cps.pendingRecord.isSome = true := by
  decide +kernel
theorem witness_PassEnds :
    (∃ t, restoring.geom = some small ∧ t = (passing (running 0 0) restoring).endPass .abortedByRequest) ∧
    (((running 0 0).targets.filter fun a => a.state == .active).map fun a => a.position).Nodup ∧
    PassResult.abortedByRequest ≠ .completed ∧
    { position := 1, channel := 5, start := 0, state := .active } ∈ (running 0 0).targets ∧
    (passing (running 0 0) restoring).table.position 1 = some (rebuilding 5) :=
  ⟨⟨_, rfl, rfl⟩, by decide, by decide, by decide, by decide⟩

/-- A full lock table: 48 EXCLUSIVE entries, the first with a waiter, and one request in the table-full queue. -/
def fullTable : LockTable :=
  { entries := (List.range 48).map fun i =>
      { stripe := i, mode := .exclusive, holders := [.extent (i + 1)]
        waiters := if i = 0 then [{ requester := .job 0, mode := .shared }] else [] }
    fullQueue := [{ requester := .extent 99, stripe := 48, mode := .shared }] }

theorem fullTable_sound : fullTable.Sound := by
  refine ⟨?_, by decide, by decide, fun _ => rfl, by decide⟩
  intro e he
  simp only [fullTable, List.mem_map] at he
  obtain ⟨i, -, rfl⟩ := he
  exact ⟨by simp, by simp, by simp⟩

/-- The entry of the requests below: stripe 15, held and waited for as given. -/
def entryOf (mode : LockMode) (holders : List Requester) (waiters : List Waiter) : LockEntry :=
  { stripe := 15, mode := mode, holders := holders, waiters := waiters }
/-- A table with that entry alone. -/
def oneEntry (e : LockEntry) : LockTable := { entries := [e], fullQueue := [] }
/-- A waiter. -/
def waiter (tag : Nat) (mode : LockMode) : Waiter := { requester := .extent tag, mode := mode }

theorem oneEntry_sound (mode : LockMode) (h : Requester) (waiters : List Waiter)
    (hw : mode = .shared → ∀ w ws, waiters = w :: ws → w.mode = .exclusive) :
    (oneEntry (entryOf mode [h] waiters)).Sound := by
  simp [oneEntry, LockTable.Sound, LockEntry.Sound, entryOf]
  exact hw

/-- A request where no entry stands, in a table with room and in a full one; on an entry, joining and waiting. -/
theorem witness_LocksGrantedInOrder :
    fullTable.Sound ∧ (∀ e ∈ (oneEntry (entryOf .shared [.extent 1] [])).entries, e.stripe ≠ 16) ∧
    (oneEntry (entryOf .shared [.extent 1] [])).entries.length < 48 ∧ 48 ≤ fullTable.entries.length ∧
    (∀ e ∈ fullTable.entries, e.stripe ≠ 48) ∧
    (oneEntry (entryOf .shared [.extent 1] [])).Sound ∧
    (oneEntry (entryOf .exclusive [.extent 1] [])).Sound ∧
    (oneEntry (entryOf .shared [.extent 1] [waiter 2 .exclusive])).Sound :=
  ⟨fullTable_sound, by decide, by decide, by decide, by decide, oneEntry_sound _ _ _ (by simp),
    oneEntry_sound _ _ _ (by simp), oneEntry_sound _ _ _ (by simp [waiter])⟩
/-- Releases: by nobody, with a holder left, to an EXCLUSIVE waiter, to a run of SHARED ones, of a table with nobody
waiting, of a full table; and withdrawals, of nobody, behind the head, and of the head. -/
theorem witness_LocksGrantedInOrder_released :
    (∀ e ∈ (oneEntry (entryOf .shared [.extent 1] [])).entries, Requester.extent 2 ∉ e.holders) ∧
    (∃ h ∈ (entryOf .shared [.extent 1, .extent 2] []).holders, h ≠ .extent 1) ∧
    (oneEntry (entryOf .shared [.extent 1] [waiter 2 .exclusive, waiter 3 .shared])).Sound ∧
    (oneEntry (entryOf .exclusive [.extent 1] [waiter 2 .shared, waiter 3 .shared, waiter 4 .exclusive])).Sound ∧
    ([waiter 2 .shared, waiter 3 .shared, waiter 4 .exclusive] =
      [waiter 2 .shared, waiter 3 .shared] ++ [waiter 4 .exclusive]) ∧
    (∃ e ∈ fullTable.entries, Requester.extent 2 ∈ e.holders ∧
      (∀ e' ∈ fullTable.entries, Requester.extent 2 ∈ e'.holders → e' = e) ∧ (∀ h ∈ e.holders, h = .extent 2) ∧
      e.waiters = []) ∧
    fullTable.fullQueue = { requester := .extent 99, stripe := 48, mode := .shared } :: [] ∧
    (∀ e ∈ fullTable.entries, ∀ w ∈ e.waiters, w.requester ≠ .extent 99) ∧
    (∃ e ∈ (oneEntry (entryOf .shared [.extent 1] [waiter 2 .exclusive, waiter 3 .shared])).entries,
      e.waiters = waiter 2 .exclusive :: [waiter 3 .shared] ∧ e.mode = .shared ∧
      (e.waiters.filter fun w => w.requester != .extent 2) = [waiter 3 .shared] ++ []) :=
  ⟨by decide, by decide, oneEntry_sound _ _ _ (by simp [waiter]), oneEntry_sound _ _ _ (by simp), rfl,
    ⟨{ stripe := 1, mode := .exclusive, holders := [.extent 2], waiters := [] }, by decide, by decide, by decide, by decide,
      rfl⟩, rfl, by decide, ⟨_, List.mem_singleton.mpr rfl, rfl, rfl, by decide⟩⟩
/-- R86: the last release of an entry serves the table-full queue, every SHARED record of the stripe at its head. -/
theorem test_locks_full :
    ({ fullTable with fullQueue := [{ requester := .extent 99, stripe := 48, mode := .shared },
        { requester := .extent 98, stripe := 50, mode := .exclusive },
        { requester := .extent 97, stripe := 48, mode := .shared }] }.release (.extent 2)).granted =
      [.extent 99, .extent 97] := by decide +kernel

/-- The small array with an EXCLUSIVE holder of stripe 0. -/
def locked : State :=
  { normal with slt := { normal.slt with
    entries := [{ stripe := 0, mode := .exclusive, holders := [.extent 7], waiters := [] }] } }

theorem witness_ExtentRequestsTaken :
    normal.Open 1 ∧ normal.agenda = [] ∧ normal.table.definition = some (defined [member 0, member 1, member 2, member 3]) ∧
    normal.table.state ≠ .failed ∧ (∀ r ∈ normal.esu.requests, r.tag ≠ 1) ∧ normal.esu.requests.length < 32 ∧
    1 ≤ 160 ∧ 160 ≤ 256 ∧ 0 + 160 ≤ small.capacity ∧ normal.slt.entryOf (small.stripeOf 0) = none ∧
    normal.slt.entries.length < 48 ∧ locked.Open 1 ∧ locked.slt.entryOf (small.stripeOf 0) =
      some { stripe := 0, mode := .exclusive, holders := [.extent 7], waiters := [] } :=
  ⟨⟨rfl, by decide, rfl⟩, rfl, rfl, by decide, by decide, by decide, by decide, by decide, by decide, rfl, by decide,
    ⟨rfl, by decide, rfl⟩, rfl⟩
theorem witness_ExtentRequestsTaken_refused :
    normal.Open 1 ∧ normal.agenda = [] ∧ (∃ r ∈ (holding [waiting] normal).esu.requests, r.tag = 7) ∧
    (∀ r ∈ (holding (List.replicate 32 waiting) normal).esu.requests, r.tag ≠ 1) ∧
    32 ≤ (holding (List.replicate 32 waiting) normal).esu.requests.length ∧ 256 < 257 ∧
    undefinedArray.table.definition = none ∧ broken.table.state = .failed ∧ normal.table.state ≠ .failed ∧
    small.capacity < 160 + 1 :=
  ⟨⟨rfl, by decide, rfl⟩, rfl, ⟨waiting, by decide, rfl⟩, by decide, by decide, by decide, rfl, by decide, by decide,
    by decide⟩

/-- A write in DATA-WAIT whose first block has been received. -/
def halfGiven : ExtentReq := { waiting with work := { waiting.work with received := [(0, Block.zero)] } }

theorem witness_DataFramesTaken :
    normal.ali.taking = true ∧ normal.agenda = [] ∧ (holding [waiting] normal).request 7 = some waiting ∧
    (holding [waiting] normal).geom = some small ∧ waiting.kind = .write ∧ waiting.state = .dataWait ∧
    waiting.work.grant = some (0, 2) ∧
    (∃ i, 0 ≤ i ∧ i < 0 + 2 ∧ ∀ e ∈ [(0, Block.zero)], e.1 ≠ i) ∧
    (holding [halfGiven] normal).request 7 = some halfGiven ∧
    (∀ i, 0 ≤ i → i < 0 + 2 → ∃ e ∈ (halfGiven.work.received.filter fun e => e.1 != 1) ++ [(1, Block.zero)], e.1 = i) ∧
    normal.request 7 = none ∧ 0 + 2 ≤ 2 := by
  refine ⟨rfl, rfl, rfl, rfl, rfl, rfl, rfl, ⟨1, by decide, by decide, by simp⟩, rfl, ?_, rfl, by decide⟩
  intro i _ hi
  have : i = 0 ∨ i = 1 := by omega
  rcases this with rfl | rfl <;> simp [halfGiven, waiting, entry]
theorem witness_RequestsEndedEarly :
    normal.Open 1 ∧ normal.agenda = [] ∧ normal.request 7 = none ∧
    (holding [waiting] normal).request 7 = some waiting ∧ waiting.tag = 7 ∧ waiting.state = .dataWait ∧
    waiting.work.dataTimer = true ∧
    (holding [entry 7 .read .lockWait noWork] normal).request 7 = some (entry 7 .read .lockWait noWork) ∧
    (holding [entry 7 .read .gather noWork] normal).request 7 = some (entry 7 .read .gather noWork) ∧
    (entry 7 .read .gather noWork).endPending = none ∧
    (holding [{ entry 7 .read .gather noWork with endPending := some .cancelled }] normal).request 7 =
      some { entry 7 .read .gather noWork with endPending := some .cancelled } ∧
    (holding [waiting] normal).Open 1 :=
  ⟨⟨rfl, by decide, rfl⟩, rfl, rfl, rfl, rfl, rfl, rfl, rfl, rfl, rfl, rfl, ⟨rfl, by decide, rfl⟩⟩
theorem witness_RoundsReadWhatMisses :
    (∃ u found missed, normal.lookups (.segment 7) small 0 [(1, 0), (1, 1), (2, 0)] = (u, found, missed)) ∧
    (entry 7 .read .gather noWork).tag = 7 ∧ (entry 7 .read .gather noWork).stripe small = 0 ∧
    (readRuns small 0 [⟨1, 0, none⟩, ⟨1, 2, none⟩])[0]? = some { position := 1, first := 0, count := 1, op := .read [] } ∧
    (readRuns small 0 [⟨1, 0, none⟩, ⟨1, 2, none⟩])[1]? = some { position := 1, first := 2, count := 1, op := .read [] } ∧
    (writeRuns small 0 [⟨1, 0, Block.zero, true⟩, ⟨2, 1, Block.zero, true⟩]).length = 2 :=
  ⟨⟨_, _, _, rfl⟩, rfl, rfl, by decide, by decide, by decide⟩

/-- A request in a state with cells, its rounds and its method. -/
def segment (kind : ExtentKind) (state : ExtentState) (cells : List Cell) (round : Nat) (method : Option WriteMethod)
    (writeSet : List (Nat × Nat)) : ExtentReq :=
  entry 7 kind state { noWork with cells := cells, round := round, method := method, writeSet := writeSet }
/-- An erasure of a block of row 0. -/
def lost (x : Nat) : Cell := { position := x, row := 0, outcome := .erased .medium }

theorem witness_ReadSegmentGathers :
    (holding [segment .read .lockWait [] 1 none []] normal).request 7 = some (segment .read .lockWait [] 1 none []) ∧
    normal.geom = some small ∧ 0 = small.stripeOf (segment .read .lockWait [] 1 none []).first + 0 ∧
    (holding [segment .read .gather [] 1 none []] normal).request 7 = some (segment .read .gather [] 1 none []) ∧
    (segment .read .gather [] 1 none []).outstanding = 0 ∧
    (segment .read .gather [] 1 none []).endPending ≠ some .arrayFailed ∧
    (∀ b ∈ (segment .read .gather [] 1 none []).blocks small, cellAt [] b.position b.row = none) ∧
    (segment .read .gather [lost 1] 2 none []).work.round ≠ 1 ∧
    (segment .read .gather [lost 1] 1 none []).work.round = 1 ∧
    (∃ b ∈ (segment .read .gather [lost 1] 1 none []).blocks small, b.row < small.k ∧
      b.row ∉ (segment .read .gather [lost 1] 1 none []).work.rebuilding ∧
      cellAt [lost 1] b.position b.row = some (.erased .medium)) := by decide
theorem witness_ReadSegmentSends : 0 < small.k ∧ 0 = small.stripeOf (segment .read .gather [] 1 none []).first + 0 := by
  decide

/-- A full segment: the 16 blocks of stripe 0. -/
def fullSegment : ExtentReq := { segment .write .gather [] 1 (some .full) [] with count := 16 }

theorem witness_WriteSegmentGathers :
    (holding [fullSegment] normal).request 7 = some fullSegment ∧ normal.geom = some small ∧ fullSegment.kind = .write ∧
    fullSegment.state = .gather ∧ fullSegment.outstanding = 0 ∧ fullSegment.endPending ≠ some .arrayFailed ∧
    fullSegment.work.method = some .full ∧
    (holding [segment .write .gather halfRow 1 (some .readModify) [(1, 0)]] normal).request 7 =
      some (segment .write .gather halfRow 1 (some .readModify) [(1, 0)]) ∧
    (segment .write .gather halfRow 2 (some .reconstruct) []).work.round ≠ 1 :=
  ⟨rfl, rfl, rfl, rfl, rfl, by decide, rfl, rfl, by decide⟩
/-- READ-MODIFY with its one old block, P of row 0, supplied or not; RECONSTRUCT with an untouched block of row 0
that is not. -/
theorem witness_WriteSegmentGathers_old :
    let held := segment .write .gather [{ position := 3, row := 0, outcome := .good (Block.fill 0x92) }] 1
      (some .readModify) [(3, 0)]
    let gone := segment .write .gather [lost 3] 1 (some .readModify) [(3, 0)]
    let kept := segment .write .gather [lost 2] 1 (some .reconstruct) [(3, 0)]
    (∀ x row, x < small.w → held.NeedsOld small row → (x, row) ∈ held.work.writeSet →
      normal.supplied small (held.stripe small) held.work.cells x row ≠ none) ∧
    (3 < small.w ∧ gone.NeedsOld small 0 ∧ (3, 0) ∈ gone.work.writeSet ∧
      normal.supplied small (gone.stripe small) gone.work.cells 3 0 = none) ∧
    kept.work.round = 1 ∧ kept.Keeps small 2 0 ∧
    normal.supplied small (kept.stripe small) kept.work.cells 2 0 = none := by
  refine ⟨?_, ⟨by decide, ⟨⟨by decide, by decide⟩, 3, Or.inl (by decide), by decide⟩, by decide, by decide⟩, rfl,
    ⟨by decide, ⟨⟨by decide, by decide⟩, 3, Or.inl (by decide), by decide⟩, by unfold ExtentReq.ParityOn; decide,
      by unfold ExtentReq.Names; decide⟩, by decide⟩
  intro x row _ _ h
  simp only [segment, entry, List.mem_cons, List.not_mem_nil, or_false] at h
  obtain ⟨rfl, rfl⟩ := Prod.mk.inj h
  decide +kernel
/-- A segment with data for both its blocks; its untouched block of row 0 lost, so that nothing produces it. -/
theorem witness_WriteSegmentWrites :
    let full := fullSegment
    let kept := segment .write .gather [lost 2] 2 (some .reconstruct) [(3, 0)]
    small.valid = true ∧ full.work.method = some .full ∧
    (∃ (produced : Nat → Option FullRow) (rows : List Nat), (∀ row, produced row = none) ∧ rows.Pairwise (· < ·) ∧
      ∀ row, row ∈ rows ↔ full.Touches small row) ∧
    kept.work.method = some .reconstruct ∧
    (∃ x row, kept.Keeps small x row ∧ normal.supplied small (kept.stripe small) kept.work.cells x row = none ∧
      reconstruct (normal.rowOf small (kept.stripe small) kept.work.cells row) = none) := by
  refine ⟨by decide, rfl, ⟨fun _ => none, List.range 8, fun _ => rfl, by decide, fun row => ?_⟩, rfl, 2, 0,
    ⟨by decide, ⟨⟨by decide, by decide⟩, 3, Or.inl (by decide), by decide⟩, by unfold ExtentReq.ParityOn; decide,
      by unfold ExtentReq.Names; decide⟩, by decide, by decide +kernel⟩
  constructor
  · intro h
    have hr : row < 8 := List.mem_range.mp h
    interval_cases row <;> exact ⟨by decide, by decide⟩
  · intro h
    exact List.mem_range.mpr h.1
theorem witness_SegmentsEnd :
    (holding [segment .read .send [] 1 none []] normal).request 7 = some (segment .read .send [] 1 none []) ∧
    (segment .read .send [] 1 none []).tag = 7 ∧ normal.geom = some small ∧
    ({ segment .read .send [] 1 none [] with outstanding := 1 } : ExtentReq).outstanding ≠ 0 ∧
    (segment .read .send [] 1 none []).outstanding = 0 ∧
    (segment .read .send [] 1 none []).endPending ≠ some .arrayFailed ∧
    ({ segment .read .lockWait [] 1 none [] with endPending := some .cancelled } : ExtentReq).endPending =
      some .cancelled ∧
    0 + 1 < small.segments 0 32 ∧ small.segments 0 2 ≤ 0 + 1 ∧
    ExtentState.gather ∈ [ExtentState.gather, .compute, .writeOut, .send] ∧
    ({ segment .read .gather [] 1 none [] with endPending := some .arrayFailed } : ExtentReq).endPending =
      some .arrayFailed := by decide
theorem witness_ChannelSettings :
    normal.Open 1 ∧ normal.dc.share < 4 ∧ (normal.channel 0).state = .ready ∧
    (1 = if 0 = 0 then 1 else if 4 < 0 then 4 else 0) ∧ (4 = if 5 = 0 then 1 else if 4 < 5 then 4 else 5) ∧ 11 < 12 :=
  ⟨⟨rfl, by decide, rfl⟩, by decide, rfl, by decide, by decide, by decide⟩
theorem witness_ArbiterFillsSlotsWithFreshTags :
    (∃ ch', ch' = sharing.arbitrate 2 4) ∧ (sharing.arbitrateOnce 2).isSome = true ∧
    sharing.slots.get 3 = none ∧ sharing.tagCounter ∉ sharing.tagsOut ∧
    ({ sharing with tagCounter := 2 } : Channel).tagCounter ∈ ({ sharing with tagCounter := 2 } : Channel).tagsOut :=
  ⟨⟨_, rfl⟩, by decide⟩

/-- The small array with a probe on channel 11 under tag 0. -/
def probing : State := after (.insertion 11) normal

theorem witness_ProbesBeginAndEnd :
    (normal.channel 11).state = .empty ∧ (probing.channel 11).state = .probing ∧ probing.agenda = [] ∧
    (probing.channel 11).findTag 0 = some (0, { tag := 0, allowance := 30000, work := .probe }) ∧
    (ending .device 0 []).result ≠ .good ∧
    (∃ t, t = State.settle (State.latch .channelChange (State.takeError (channelBank 11)
      { code := .probeFail, uncorrected := false, block := none, count := 0, kind := some .capacity, owner := none }
      (probing.putChannel 11 { (probing.channel 11).Offline with capacity := none })))) :=
  ⟨by decide, by decide, by decide, by decide, by decide, ⟨_, rfl⟩⟩

/-- The small array with channel 4 OFFLINE. -/
def offline : State := normal.putChannel 4 { drive 80 with state := .offline }

theorem witness_DrivesRemovedAndReset :
    ((degraded.channel 4).state ≠ .empty ∧ degraded.agenda = [] ∧ degraded.table.memberOf 4 = none ∧
      degraded.table.spareOf 4 = none ∧ (degraded.channel 5).state ≠ .empty ∧ degraded.table.memberOf 5 = none ∧
      degraded.table.spareOf 5 = some 1 ∧ degraded.table.position 1 = some (lacking (some 5)) ∧
      (degraded.channel 2).state ≠ .empty ∧ degraded.table.memberOf 2 = some 2) ∧
    normal.Open 1 ∧ offline.Open 1 ∧ probing.Open 1 ∧ degraded.Open 1 ∧ normal.table.memberOf 4 = none ∧
    normal.table.spareOf 4 = none ∧ (normal.channel 4).state = .ready ∧ (offline.channel 4).state = .offline ∧
    (degraded.channel 5).state = .ready ∧ normal.table.memberOf 11 = none ∧ (normal.channel 11).state = .empty ∧
    (probing.channel 11).state = .probing ∧ (normal.table.memberOf 2).isSome = true ∧ 11 < 12 :=
  ⟨by decide, ⟨rfl, by decide, rfl⟩, ⟨rfl, by decide, rfl⟩, ⟨rfl, by decide, rfl⟩, ⟨rfl, by decide, rfl⟩, by decide⟩

/-- The small array with an orphan in slot 0 of channel c under tag 9. -/
def orphaned (c : Chan) (cmd : DriveCmd) : State :=
  normal.putChannel c { normal.channel c with
    slots := (normal.channel c).slots.set 0 (some { tag := 9, allowance := 8000, work := .orphan cmd }) }

theorem witness_StraysAndOrphansEnd :
    (normal.agenda = [] ∧ (normal.channel 11).state = .empty ∧ (offline.channel 4).state = .offline ∧
      (normal.channel 2).state = .ready ∧ (normal.channel 2).findTag 3 = none ∧ (probing.channel 11).state = .probing ∧
      (probing.channel 11).findTag 3 = none) ∧
    ((orphaned 2 writeCmd).channel 2).state = .ready ∧ (orphaned 2 writeCmd).agenda = [] ∧
    ((orphaned 2 writeCmd).channel 2).findTag 9 = some (0, { tag := 9, allowance := 8000, work := .orphan writeCmd }) ∧
    ((orphaned 2 readCmd).channel 2).findTag 9 = some (0, { tag := 9, allowance := 8000, work := .orphan readCmd }) ∧
    readCmd.op = .read [] ∧ writeCmd.op = .write [Block.fill 0x35] [true] ∧
    (∃ e, e = State.takeError (channelBank 2)
      { code := .timeout, uncorrected := true, block := some 0, count := 1, kind := some .write, owner := none }
      ((orphaned 2 writeCmd).freeSlot 2 0)) ∧
    (orphaned 2 writeCmd).table.memberOf 2 = some 2 ∧ (orphaned 4 writeCmd).table.memberOf 4 = none ∧
    ((orphaned 2 writeCmd).eba.banks.get (channelBank 2)).autoFail = false ∧
    ((orphaned 2 writeCmd).eba.banks.get (channelBank 2)).counter ≠ 4094 :=
  ⟨by decide, rfl, rfl, rfl, rfl, rfl, rfl, ⟨_, rfl⟩, rfl, rfl, rfl, by decide⟩


theorem witness_ReadsAnswered :
    ((busy (.segment 30) readCmd 0 normal).channel 2).state = .ready ∧ (busy (.segment 30) readCmd 0 normal).agenda = [] ∧
    readCmd.op = .read [] ∧ readCmd.first ≤ readCmd.first + readCmd.count ∧
    ((busy (.segment 30) readCmd 0 normal).channel 2).findTag 9 = some (0, slotOf (.segment 30) readCmd 0) ∧
    ((busy (.segment 30) readCmd 8 normal).channel 2).findTag 9 = some (0, slotOf (.segment 30) readCmd 8) ∧
    (∃ answered : Nat → List BlockOutcome → State, ∀ next' outs', answered next' outs' =
      (busy (.segment 30) readCmd 0 normal).putChannel 2 { (busy (.segment 30) readCmd 0 normal).channel 2 with
        slots := ((busy (.segment 30) readCmd 0 normal).channel 2).slots.set 0 (some
          { tag := 9, allowance := 8000, work := .owned (.segment 30) readCmd next' outs' 0 [] }) }) ∧
    (ending .good 0 (List.replicate 16 Block.zero)).blocks.length = 0 + 16 - 0 ∧
    (ending .medium 0 []).blocks.length = 0 - 0 ∧ 0 ≤ (ending .medium 0 []).number ∧
    (ending .medium 15 (List.replicate 15 Block.zero)).number < 0 + 16 ∧
    (ending .medium 15 (List.replicate 15 Block.zero)).blocks.length = 15 - 0 ∧
    0 + 16 ≤ (ending .medium 16 []).number :=
  ⟨by decide, by decide, rfl, by decide, by decide, by decide, ⟨fun _ _ => _, fun _ _ => rfl⟩, by decide⟩
theorem witness_WritesAnswered :
    ((busy (.segment 30) writeCmd 0 normal).channel 2).state = .ready ∧ writeCmd.op = .write [Block.fill 0x35] [true] ∧
    ((busy (.segment 30) writeCmd 0 normal).channel 2).findTag 9 = some (0, slotOf (.segment 30) writeCmd 0) ∧
    (ending .medium 0 []).result ≠ .good ∧ (busy (.segment 30) writeCmd 0 normal).table.memberOf 2 = some 2 ∧
    ((busy (.segment 30) writeCmd 0 normal).eba.banks.get (channelBank 2)).autoFail = false ∧
    ((busy (.segment 30) writeCmd 0 normal).eba.banks.get (channelBank 2)).counter ≠ 4094 :=
  ⟨rfl, rfl, rfl, by decide, rfl, rfl, by decide⟩
theorem witness_CommandTimesOut :
    (busy (.segment 30) readCmd 0 normal).agenda = [] ∧
    ((busy (.segment 30) readCmd 0 normal).channel 2).findTag 9 = some (0, slotOf (.segment 30) readCmd 0) ∧
    readCmd.op = .read [] ∧
    ((busy (.segment 30) writeCmd 0 normal).channel 2).findTag 9 = some (0, slotOf (.segment 30) writeCmd 0) ∧
    writeCmd.op = .write [Block.fill 0x35] [true] ∧ (busy (.segment 30) writeCmd 0 normal).table.memberOf 2 = some 2 ∧
    ((busy (.segment 30) writeCmd 0 normal).eba.banks.get (channelBank 2)).autoFail = false ∧
    ((busy (.segment 30) writeCmd 0 normal).eba.banks.get (channelBank 2)).counter ≠ 4094 ∧
    (normal.channel 2).findTag 9 = none := ⟨rfl, rfl, rfl, rfl, rfl, rfl, rfl, by decide, rfl⟩

/-- The small array with an owned READ in slot 0 of channel 2, its next block as given. -/
def reading (next : Nat) : State :=
  normal.putChannel 2 { normal.channel 2 with
    slots := (normal.channel 2).slots.set 0
      (some { tag := 9, allowance := 8000, work := .owned (.segment 30) readCmd next [] 0 [] }) }

theorem witness_WorkUnits :
    (∃ (s : State) (t : Task) (ts : List Task), { normal with agenda := [.startJobs, .drained] } = s ∧ s.agenda = t :: ts) ∧
    ((reading 16).channel 2).slots.get 0 =
      some { tag := 9, allowance := 8000, work := .owned (.segment 30) readCmd 16 [] 0 [] } ∧
    readCmd.first + readCmd.count ≤ 16 ∧ 5 < readCmd.first + readCmd.count ∧
    (∀ j slot, j ≠ 0 → ((reading 5).channel 2).slots.get j = some slot → slot.tag ≠ ((reading 5).channel 2).tagCounter) ∧
    (normal.channel 2).slots.get 0 = none ∧ normal.table.memberOf 4 = none ∧ normal.table.memberOf 2 = some 2 ∧
    normal.table.position 2 = some (member 2) := by
  refine ⟨⟨_, _, _, rfl, rfl⟩, rfl, by decide, by decide, ?_, rfl, rfl, rfl, rfl⟩
  intro j slot hj h
  fin_cases j
  · exact absurd rfl hj
  · cases h
  · cases h
  · cases h
theorem witness_WorkUnits_freed :
    (∃ u, u = (reading 16).putChannel 2
      { (reading 16).channel 2 with slots := ((reading 16).channel 2).slots.set 0 none }) ∧
    ((reading 16).channel 2).state = .ready ∧ (normal.channel 11).state ≠ .ready ∧
    markedRuns 5 [true, true, false, true] = [(5, 2), (8, 1)] ∧
    (∃ u : Nat → State, u 0 = normal ∧ u 1 = (u 0).trim 2 5 2 ∧ u 2 = (u 1).trim 2 8 1) :=
  ⟨⟨_, rfl⟩, rfl, by decide, by decide,
    ⟨fun n => if n = 0 then normal else if n = 1 then normal.trim 2 5 2 else (normal.trim 2 5 2).trim 2 8 1, rfl, rfl, rfl⟩⟩
/-- The units that reach a segment, a job, a channel and the pass. -/
theorem witness_WorkUnits_owners :
    (holding [segment .read .gather [] 1 none []] normal).request 7 = some (segment .read .gather [] 1 none []) ∧
    normal.geom = some small ∧ readCmd.op = .read [] ∧ (∃ u, u = normal.fillAll 2 2 [] [] 0 [.good Block.zero]) ∧
    (working (jobAt 0 .reading)).jobOf 0 = some (jobAt 0 .reading) ∧
    normal.table.position 2 = some (member 2) ∧ (member 2).channel = some 2 ∧ (normal.channel 2).state = .ready ∧
    unspared.table.position 1 = some (lacking none) ∧ (lacking none).channel = none ∧
    (holding [segment .write .lockWait [] 1 none []] normal).request 7 = some (segment .write .lockWait [] 1 none []) ∧
    0 < small.stripeBlocks ∧ 0 = max 0 ((small.stripeOf 0 + 0) * small.stripeBlocks) ∧
    (2 = min (0 + 2) ((small.stripeOf 0 + 0 + 1) * small.stripeBlocks) - 0) ∧
    (holding [waiting] normal).request 7 = some waiting ∧ waiting.state ≠ .lockWait ∧
    (normal.channel 11).state ≠ .ready ∧
    (passing { running 0 0 with state := .stopping, stopCause := some .abortedByRequest } restoring).rbc.state =
      .stopping ∧
    (∃ j ∈ (passing { running 0 1 with state := .stopping, window := [jobAt 0 .reading] } restoring).rbc.window,
      j.state ≠ .complete ∧ j.state ≠ .failed) ∧ normal.rbc.state ≠ .stopping :=
  ⟨rfl, rfl, rfl, ⟨_, rfl⟩, rfl, rfl, rfl, rfl, rfl, rfl, rfl, by decide, by decide, by decide, rfl, by decide, by decide,
    rfl, ⟨jobAt 0 .reading, by decide, by decide, by decide⟩, by decide⟩

/-- The small array with inject set on way 0. -/
def injecting : State := after (.cacheMode 1 0 0 0 0 1 0) normal

theorem witness_LookupsJudged :
    (∃ t result, normal.lookup (.segment 30) 3 2296 = (t, result)) ∧
    (normal.cbs.mode .way0).forceMiss = false ∧ (normal.cbs.sets.get (Machine.setOf 3 2296)).line (Way.other .way0) = none ∧
    (∃ t, t = normal.place 3 2296 (Block.fill 0x35) .way0) ∧ (normal.cbs.mode .way0).inject = false ∧
    (injecting.cbs.mode .way0).forceMiss = false ∧ (injecting.cbs.mode .way0).inject = true ∧
    (injecting.cbs.sets.get (Machine.setOf 3 2296)).line (Way.other .way0) = none :=
  ⟨⟨_, _, rfl⟩, by decide, by decide +kernel, ⟨_, rfl⟩, by decide, by decide +kernel, by decide +kernel, by decide +kernel⟩

/-- The small array with a line of block 0 of position 2 in each way, its parities as given. -/
def lines (tag0 : BitVec 2) (data0 : Block) (tag1 : BitVec 2) (data1 : Block) : State :=
  let line (tag : BitVec 2) (data : Block) : Line :=
    { position := 2, block := 0, tagParity := tag, contents := Block.zero, dataParity := data }
  let set : BufferSet := { line0 := some (line tag0 data0), line1 := some (line tag1 data1), replace := .way0 }
  { normal with cbs := { normal.cbs with sets := normal.cbs.sets.set (Machine.setOf 2 0) set } }
/-- The tag parity of that line. -/
def tagOf : BitVec 2 := tagParityOf 2 0

/-- A way that holds the block; ways whose data, and ways whose tag, fail their parity; and the errors logged. -/
theorem witness_LookupsJudged_lines :
    (lines tagOf Block.zero tagOf Block.zero).cbs.Holds 2 0 .way0 Block.zero ∧
    (lines tagOf Block.zero tagOf Block.zero).cbs.Holds 2 0 .way1 Block.zero ∧
    (lines tagOf 1 tagOf 1).cbs.BadData 2 0 .way0 ∧ (lines tagOf 1 tagOf 1).cbs.BadData 2 0 .way1 ∧
    (lines (tagOf + 1) 1 (tagOf + 1) 1).cbs.BadTag 2 0 .way0 ∧ (lines (tagOf + 1) 1 (tagOf + 1) 1).cbs.BadTag 2 0 .way1 ∧
    ∃ logged : Way → State → State, ∀ w u, logged w u = u.takeError 12
      { code := .tagParity, uncorrected := false, block := some 0, count := 1, kind := some .lookup,
        owner := some (Owner.segment 30).errorOwner } := by
  refine ⟨⟨rfl, _, rfl, ?_⟩, ⟨rfl, _, rfl, ?_⟩, ⟨rfl, _, rfl, ?_⟩, ⟨rfl, _, rfl, ?_⟩, ⟨rfl, _, rfl, ?_⟩,
    ⟨rfl, _, rfl, ?_⟩, ⟨_, fun _ _ => rfl⟩⟩ <;> decide +kernel
/-- R65 to R67: a hit names the other way; bad data is told before a bad tag, and both lines leave. -/
theorem test_lookup :
    ((lines tagOf Block.zero tagOf Block.zero).lookup (.segment 30) 2 0).2 = .hit Block.zero ∧
    (((lines tagOf Block.zero tagOf Block.zero).lookup (.segment 30) 2 0).1.cbs.sets.get (Machine.setOf 2 0)).replace =
      .way1 ∧
    ((lines (tagOf + 1) 1 tagOf 1).lookup (.segment 30) 2 0).2 = .miss (some .way1) ∧
    (((lines (tagOf + 1) 1 tagOf 1).lookup (.segment 30) 2 0).1.cbs.sets.get (Machine.setOf 2 0)).line0 = none := by
  decide +kernel

/-- The small array with block 0 of position 2 buffered in way 0. -/
def buffered : State := normal.place 2 0 (Block.fill 0x35) .way0
/-- The small array with force-miss on way 0 and on way 1 as given. -/
def missing (a b : Bool) (s : State) : State :=
  { s with cbs := { s.cbs with
    mode0 := { s.cbs.mode0 with forceMiss := a }, mode1 := { s.cbs.mode1 with forceMiss := b } } }
/-- A way is a candidate for fills (R70). -/
def candidate (s : State) (w : Way) : Prop :=
  (s.cbs.mode w).forceMiss = false ∧ (s.cbs.mode w.other).forceReplace = false
/-- A way that is in use carries block 0 of position 2. -/
def carrying (s : State) (w : Way) : Prop :=
  (s.cbs.mode w).forceMiss = false ∧
    ∃ l, (s.cbs.sets.get (Machine.setOf 2 0)).line w = some l ∧ l.position = 2 ∧ l.block = 0

theorem witness_FillsAndUpdates :
    (normal.table.definition = some (defined [member 0, member 1, member 2, member 3]) ∧
      normal.table.position 2 = some (member 2) ∧ (member 2).channel = some 2 ∧
      normal.available 2 (small.memberStripe 0) = true ∧ (member 1).channel ≠ some 2) ∧
    (candidate normal .way0 ∧ candidate normal .way1 ∧ ¬candidate (missing true true normal) .way0 ∧
      ¬candidate (missing true true normal) .way1 ∧ ¬candidate (missing true false normal) .way0 ∧
      candidate (missing true false normal) .way1) ∧
    (carrying buffered .way0 ∧ ¬carrying buffered .way1 ∧ ¬carrying normal .way0 ∧ ¬carrying normal .way1) ∧
    (∃ u : Nat → State, u 0 = normal ∧ u 1 = normal.fillBlock 2 2 0 Block.zero none [] ∧ u 2 = u 1) ∧
    (∃ t, t = buffered.writeThrough none 2 0 [Block.fill 0x13]) ∧ [Block.fill 0x13].length ≤ 256 ∧
    (buffered.cbs.mode .way0).forceMiss = false ∧
    ((buffered.cbs.sets.get (Machine.setOf 2 (0 + 0))).line .way0).isSome = true := by
  have emptySet : normal.cbs.sets.get (Machine.setOf 2 0) = BufferStore.cold.sets.get (Machine.setOf 2 0) := rfl
  refine ⟨⟨rfl, rfl, rfl, by decide, by decide⟩,
    ⟨⟨rfl, rfl⟩, ⟨rfl, rfl⟩, (nomatch ·.1), (nomatch ·.1), (nomatch ·.1), ⟨rfl, rfl⟩⟩,
    ⟨⟨rfl, _, rfl, rfl, rfl⟩, ?_, ?_, ?_⟩,
    ⟨fun n => if n = 0 then normal else normal.fillBlock 2 2 0 Block.zero none [], rfl, rfl, rfl⟩, ⟨_, rfl⟩, by decide, rfl,
    by decide +kernel⟩
  all_goals
    rintro ⟨-, l, h, -⟩
    cases h
/-- The change of a line and the update of a way that the statement is stated with are those of the model. -/
theorem witness_FillsAndUpdates_functions (x m : Nat) (b : Block) (w w' : Way) (l : Option Line) (owner : Option ErrorOwner)
    (u : State) :
    (w' ≠ w → ((u.cbs.sets.get (Machine.setOf x m)).putLine w l).line w' = (u.cbs.sets.get (Machine.setOf x m)).line w') ∧
    ((u.cbs.sets.get (Machine.setOf x m)).putLine w l).line w = l ∧
    ((u.cbs.sets.get (Machine.setOf x m)).putLine w l).replace = (u.cbs.sets.get (Machine.setOf x m)).replace ∧
    ((u.cbs.mode w).forceMiss = true ∨ (u.cbs.sets.get (Machine.setOf x m)).line w = none →
      u.updateWay owner x m b w = u) := by
  refine ⟨?_, ?_, ?_, ?_⟩
  · intro h
    cases w <;> cases w' <;> first | rfl | exact absurd rfl h
  · cases w <;> rfl
  · cases w <;> rfl
  · unfold State.updateWay
    rintro (h | h) <;> simp [h]
/-- A placement, and a WRITE that meets a line whose tag parity fails. -/
theorem witness_FillsAndUpdates_placed :
    Way.way1 ≠ .way0 ∧ (∃ t, t = normal.place 2 0 (Block.fill 0x35) .way0) ∧
    (∃ i, i = Machine.setOf 2 0) ∧ (normal.cbs.mode .way0).inject = false ∧ (injecting.cbs.mode .way0).inject = true ∧
    ((lines (tagOf + 1) 1 tagOf 1).cbs.mode .way0).forceMiss = false ∧
    (((lines (tagOf + 1) 1 tagOf 1).cbs.sets.get (Machine.setOf 2 0)).line .way0).any
      (fun l => l.tagParity != tagParityOf l.position l.block) = true :=
  ⟨by decide, ⟨_, rfl⟩, ⟨_, rfl⟩, by decide, by decide +kernel, by decide, by decide +kernel⟩
/-- R66, R76: a stored WRITE invalidates a compared line whose tag parity fails, and logs it with its own kind and owner. -/
theorem test_update_badTag :
    let t := (lines (tagOf + 1) 1 tagOf 1).writeThrough (some (.request 30)) 2 0 [Block.fill 0x13]
    (t.cbs.sets.get (Machine.setOf 2 0)).line0 = none ∧
    (t.eba.banks.get 12).record = some
      { code := .tagParity, uncorrected := false, block := some 0, count := 1, kind := some .write,
        owner := some (.request 30) } := by decide +kernel
theorem witness_BufferedLinesStayAvailable :
    (buffered.withPending [.removal 2]).BufferSound ∧
    ∃ t, step (buffered.withPending [.removal 2]) = .next t := by
  refine ⟨⟨fun i w l h => ?_, fun _ => ⟨rfl, rfl⟩, fun h => absurd rfl h⟩, _, rfl⟩
  refine ⟨small, rfl, ?_⟩
  by_cases hi : Machine.setOf 2 0 = i
  · subst hi
    cases w with
    | way0 =>
      have : l = { position := 2, block := 0, tagParity := tagParityOf 2 0, contents := Block.fill 0x35,
                   dataParity := Block.parity (Block.fill 0x35) } := (Option.some.inj h).symm
      subst this
      decide +kernel
    | way1 => cases h
  · have h' : (normal.cbs.sets.get i).line w = some l := by
      rw [← h]
      exact congrArg (fun b => BufferSet.line b w) (Vec.get_set_other _ _ _ _ hi).symm
    have cold : normal.cbs = BufferStore.cold := rfl
    rw [cold] at h'
    cases w <;> simp [BufferStore.cold, BufferSet.line] at h'
theorem witness_CacheModeSet :
    normal.Open 1 ∧ (1 ≤ 1 ∧ 0 ≤ 1 ∧ ¬(1 = 1 ∧ (0 : Nat) = 1)) ∧ 1 < 2 ∧ normal.cbs.mode0.forceMiss = false :=
  ⟨⟨rfl, by decide, rfl⟩, by decide, by decide, by decide⟩

/-- A list with one entry, at a limit of 16. -/
def listed : State :=
  { normal with lel := { entries := [{ position := 1, first := 10, count := 10, cause := .loaded }], limit := 16 } }
/-- A full list: an entry of 10 blocks of position 1, and 15 of position 2. -/
def listFull : State :=
  { normal with lel := { limit := 16, entries := { position := 1, first := 10, count := 10, cause := .loaded } ::
      (List.range 15).map fun i => { position := 2, first := 2 * i, count := 1, cause := .loaded } } }

theorem listed_sound : listed.lel.Sound := by
  refine ⟨⟨by simp [listed], by simp [listed]⟩, by decide, by decide, by decide⟩

theorem witness_ListedBlocksAddedAndTrimmed :
    listed.lel.Sound ∧ 1 ≤ 65535 ∧ listed.addLost 1 20 65535 .loaded = (true, (listed.addLost 1 20 65535 .loaded).2) ∧
    listFull.addLost 3 63 1 .loaded = (false, listFull) ∧ listed.lel.entries.length < listed.lel.limit ∧
    (∃ t, t = listed.trim 1 13 1) := ⟨listed_sound, by decide, rfl, rfl, by decide, ⟨_, rfl⟩⟩
/-- What a trim leaves of each entry, on a list with room and on a full one. -/
theorem witness_ListedBlocksAddedAndTrimmed_left :
    1 ≤ 1 ∧ (∃ left : LostEntry → List LostEntry, ∀ e, left e =
      e.without (decide (listFull.lel.entries.length < listFull.lel.limit)) 1 13 1) ∧
    (LostEntry.mk 1 10 10 .loaded).without false 1 13 1 = [⟨1, 10, 10, .loaded⟩] ∧
    (LostEntry.mk 1 10 10 .loaded).without true 1 13 1 = [⟨1, 10, 3, .loaded⟩, ⟨1, 14, 6, .loaded⟩] ∧
    (LostEntry.mk 1 10 10 .loaded).without false 1 5 10 = [⟨1, 15, 5, .loaded⟩] ∧
    (LostEntry.mk 1 10 10 .loaded).without false 1 15 5 = [⟨1, 10, 5, .loaded⟩] ∧
    (LostEntry.mk 1 10 10 .loaded).without false 1 10 10 = [] ∧
    (LostEntry.mk 1 10 10 .loaded).without false 1 20 1 = [⟨1, 10, 10, .loaded⟩] :=
  ⟨by decide, ⟨_, fun _ => rfl⟩, by decide, by decide, by decide, by decide, by decide, by decide⟩
/-- R148 to R150: a run that straddles a listed one has two pieces, each of which joins it, and the list that it leaves
near its limit is reported. -/
theorem test_lost_pieces :
    lostPieces [⟨1, 10, 10, .loaded⟩] 1 5 20 = [(5, 5), (20, 5)] ∧
    addLostEntries [⟨1, 10, 10, .loaded⟩] 1 5 20 .loaded = [⟨1, 5, 20, .loaded⟩] ∧
    (listFull.addLost 1 12 2 .loaded).2.eba.attention = 0x08 := by decide +kernel
theorem witness_LostListStaysSound :
    (listed.withPending [.loadLost 1 [{ position := 1, first := 20, count := 1 }]]).lel.Sound ∧
    ∃ t, step (listed.withPending [.loadLost 1 [{ position := 1, first := 20, count := 1 }]]) = .next t :=
  ⟨listed_sound, _, rfl⟩

/-- Two extents, the first right behind the listed one. -/
def loads : List LostExtent := [{ position := 1, first := 20, count := 1 }, { position := 3, first := 79, count := 1 }]

theorem witness_LostExtentsLoadedAndDropped_load :
    listed.table.definition = some (defined [member 0, member 1, member 2, member 3]) ∧ listed.Open 1 ∧ 1 ≤ loads.length ∧
    loads.length ≤ 64 ∧
    (∀ e ∈ loads, e.position < small.w ∧ 1 ≤ e.count ∧ e.count ≤ 65535 ∧ small.b0 ≤ e.first ∧
      e.first + e.count ≤ small.b0 + small.s * small.k) ∧
    (∃ u : Nat → State, u 0 = listed ∧
      ∀ i e, i < 2 → loads[i]? = some e → (u i).addLost e.position e.first e.count .loaded = (true, u (i + 1))) ∧
    (∃ u : Nat → State, u 0 = listFull ∧
      (∀ i e, i < 1 → loads[i]? = some e → (u i).addLost e.position e.first e.count .loaded = (true, u (i + 1))) ∧
      ∀ e, loads[1]? = some e → ((u 1).addLost e.position e.first e.count .loaded).1 = false) := by
  refine ⟨rfl, ⟨rfl, by decide, rfl⟩, by decide, by decide, by decide,
    ⟨fun n => match n with
      | 0 => listed
      | 1 => (listed.addLost 1 20 1 .loaded).2
      | _ => ((listed.addLost 1 20 1 .loaded).2.addLost 3 79 1 .loaded).2, rfl, ?_⟩,
    ⟨fun n => match n with
      | 0 => listFull
      | _ => (listFull.addLost 1 20 1 .loaded).2, rfl, ?_, ?_⟩⟩
  · intro i e hi h
    match i, hi with
    | 0, _ => cases h; rfl
    | 1, _ => cases h; rfl
  · intro i e hi h
    match i, hi with
    | 0, _ => cases h; rfl
  · intro e h
    cases h
    decide
/-- The refusals of LOAD-LOST, and DROP-LOST accepted and refused. -/
theorem witness_LostExtentsLoadedAndDropped :
    listed.Open 1 ∧ undefinedArray.table.definition = none ∧ ([] : List LostExtent).length = 0 ∧
    small.w ≤ ({ position := 4, first := 0, count := 1 } : LostExtent).position ∧
    small.b0 + small.s * small.k < 80 + 1 ∧ (guarding 0x52 (some 1) listed).GuardedBy 1 0x52 (some 1) ∧
    (guarding 0x52 (some 1) undefinedArray).GuardedBy 1 0x52 (some 1) ∧ 1 < small.w ∧ 1 ≤ 1 ∧ small.b0 ≤ 13 ∧
    13 + 1 ≤ small.b0 + small.s * small.k ∧
    (∃ e ∈ listFull.lel.entries, e.position = 1 ∧ e.first < 13 ∧ 13 + 1 < e.first + e.count) ∧
    listFull.lel.entries.length = listFull.lel.limit ∧ listed.lel.entries.length ≠ listed.lel.limit ∧
    (guarding 0x52 (some 1) listFull).GuardedBy 1 0x52 (some 1) :=
  ⟨⟨rfl, by decide, rfl⟩, rfl, rfl, by decide, by decide, ⟨rfl, by decide, rfl⟩, ⟨rfl, by decide, rfl⟩, by decide, by decide,
    by decide, by decide, by decide, by decide, by decide, ⟨rfl, by decide, rfl⟩⟩

/-- A state with a Checkpoint Store as given. -/
def storing (c : CheckpointStore) : State := { normal with cps := c }

/-- Each state of the store as a record comes: a free slot, none (slot 63 WRITTEN), RETIRED, worn, FAULTED; and what
is done with a record. -/
theorem witness_RecordsTakenAndProgrammed :
    (∃ dropped begun : State → CheckpointRecord → State,
      (∀ s r, dropped s r = s.wornDrop r) ∧ (∀ s r, begun s r = s.beginRecord r)) ∧
    normal.cps.state = .ready ∧ normal.cps.nextFree = some 0 ∧
    ({ programming with slotMap := Vec.replicate 64 .written } : CheckpointStore).nextFree = none ∧
    ({ programming with classification := .retired } : CheckpointStore).nextFree = none ∧
    (storing { programming with wornFlag := true }).cps.wornFlag = true ∧ (storing programming).cps.state = .programming ∧
    (storing { programming with state := .erasing }).cps.state = .erasing ∧
    (storing { programming with state := .faulted }).cps.state = .faulted ∧ normal.geom = some small ∧
    (∀ j, normal.cps.slotMap.get j = .blank) ∧ programming.slotMap.get 61 ≠ .blank ∧
    (∀ k, 61 < k → programming.slotMap.get k = .blank) :=
  ⟨⟨_, _, fun _ _ => rfl, fun _ _ => rfl⟩, rfl, by decide +kernel, by decide +kernel, by decide +kernel, rfl, rfl, rfl, rfl,
    rfl, by decide +kernel, by decide +kernel, by decide +kernel⟩
/-- The functions that the statement is stated with are those of the model. -/
theorem witness_RecordsTakenAndProgrammed_functions (s : State) (r : CheckpointRecord) :
    (∀ j, s.cps.nextFree = some j → s.beginRecord r = { s with cps := { s.cps with
      status := .normal, state := .programming, op := .program j r } }) ∧
    (s.cps.nextFree = none → s.cps.wornFlag = false → s.beginRecord r = { s with cps := { s.cps with
      status := .normal, state := .erasing, op := .erase .retireCell none, pendingRecord := some r } }) ∧
    (s.cps.nextFree = none → s.cps.wornFlag = true → s.beginRecord r = s.wornDrop r) := by
  refine ⟨fun j h => ?_, fun h hw => ?_, fun h hw => ?_⟩
  · simp only [State.beginRecord, h]
    rfl
  · simp only [State.beginRecord, h, hw]
    rfl
  · simp only [State.beginRecord, h, hw]
    rfl
/-- The ends of a program: with no record pending and with one, of slot 62 and of slot 63, and the second error. -/
theorem witness_RecordsTakenAndProgrammed_ends :
    (storing programming).cps.op = .program 62 (recordAt 2048) ∧ (storing programming).cps.state = .programming ∧
    (storing programming).cps.rescan = false ∧ (storing programming).cps.pendingRecord = none ∧
    (storing { programming with rescan := true }).cps.rescan = true ∧
    ({ programming with pendingRecord := some (recordAt 3072) } : CheckpointStore).pendingRecord =
      some (recordAt 3072) ∧
    (storing programming).cps.errorRun = 0 ∧ ((storing programming).cps.torn 62).nextFree = some 63 ∧
    (({ programming with op := .program 63 (recordAt 2048) } : CheckpointStore).torn 63).nextFree = none ∧
    (storing { programming with errorRun := 1 }).cps.errorRun = 1 ∧ (63 : Nat) ≠ (62 : Fin 64).val :=
  ⟨by decide, by decide, by decide, by decide, rfl, rfl, by decide, by decide +kernel, by decide +kernel, by decide,
    by decide⟩
/-- R172: a program that a restart found under way is followed by the scan. -/
theorem test_program_rescan :
    (after (.slotProgramEnd 62 true) (storing { programming with rescan := true })).cps.state = .scanning := by
  decide +kernel
/-- R167: a worn store with no free slot drops the record and is FAULTED. -/
theorem test_store_worn :
    let t := (storing { programming with
      state := .ready, op := .none, wornFlag := true, slotMap := Vec.replicate 64 .written }).giveRecord (recordAt 2048)
    t.cps.state = .faulted ∧ t.cps.status = .worn ∧ (t.eba.banks.get 14).record.map (fun e => e.code) = some .worn := by
  decide +kernel

/-- A store at a step of an erase cycle that answers a request of tag 5. -/
def erasing (step : EraseStep) : CheckpointStore :=
  { normal.cps with state := .erasing, op := .erase step (some 5) }

theorem witness_EraseCycle :
    (guarding 0x59 none normal).GuardedBy 1 0x59 none ∧ normal.cps.state = .ready ∧ normal.cps.wornFlag = false ∧
    (guarding 0x59 none (storing programming)).cps.state = .programming ∧
    (guarding 0x59 none (storing { normal.cps with wornFlag := true })).cps.wornFlag = true ∧
    (storing (erasing .retireCell)).cps.op = .erase .retireCell (some 5) ∧
    (storing (erasing .area)).cps.op = .erase .area (some 5) ∧
    (storing (erasing .openCell)).cps.op = .erase .openCell (some 5) ∧
    (storing (erasing .openCell)).cps.pendingRecord = none ∧ (storing (erasing .openCell)).cps.rescan = false ∧
    (storing (erasing .openCell)).cps.wornFlag = false :=
  ⟨⟨rfl, by decide, rfl⟩, rfl, rfl, rfl, rfl, rfl, rfl, rfl, rfl, rfl, rfl⟩
/-- With a record that waits, without a request to answer, in a restart, and at the last erase. -/
theorem witness_EraseCycle_pending :
    (storing { erasing .openCell with pendingRecord := some (recordAt 4096) }).cps.pendingRecord = some (recordAt 4096) ∧
    (storing { erasing .openCell with op := .erase .openCell none }).cps.op = .erase .openCell none ∧
    (storing { erasing .openCell with rescan := true }).cps.rescan = true ∧
    (storing { erasing .openCell with nv := { (erasing .openCell).nv with eraseCount := 19999 } }).cps.nv.eraseCount + 1 =
      20000 ∧
    ∃ answered : State → State, ∀ u,
      answered u = State.reply 5 .ok (.eraseCount ((storing (erasing .openCell)).cps.nv.eraseCount + 1)) u :=
  ⟨rfl, rfl, rfl, rfl, _, fun _ => rfl⟩
/-- How the cells may read after a step that fails, and what the failure is stated with. -/
theorem witness_EraseCycle_failed :
    ∃ (retire opening : Byte) (c : CheckpointStore) (u v : State),
      (retire = (if cells.retire = 0xFF then 0xFF else 0x00) ∧ opening = if cells.retire = 0xFF then 0xFF else cells.opening) ∧
      c = { (storing (erasing .area)).cps with
        nv := { (storing (erasing .area)).cps.nv with retireCell := retire, openCell := opening } } ∧
      u = State.takeError 14
        { code := .erase, uncorrected := true, block := none, count := 0, kind := some .eraseCycle, owner := none }
        { storing (erasing .area) with cps := c } ∧
      v = State.latch .storeFault { u with cps := { c with
        status := .eraseError, state := if (storing (erasing .area)).cps.rescan = true then .scanning else .faulted
        op := .none, rescan := false, pendingRecord := none } } := ⟨_, _, _, _, _, ⟨rfl, rfl⟩, rfl, rfl, rfl⟩
theorem witness_LimitAndIntervalHeld : normal.Open 1 := ⟨rfl, by decide, rfl⟩
theorem witness_ScanClassifies :
    State.reset.cps.state = .scanning ∧
    ({ State.reset with cps := { State.reset.cps with
      nv := { State.reset.cps.nv with retireCell := 0x00 } } } : State).cps.state = .scanning := ⟨rfl, rfl⟩
theorem witness_ColdStartContents :
    normal.cps.op = .none ∧ (storing programming).cps.op = .program 62 (recordAt 2048) ∧
    (storing (erasing .retireCell)).cps.op = .erase .retireCell (some 5) ∧
    (storing (erasing .area)).cps.op = .erase .area (some 5) ∧
    (storing (erasing .openCell)).cps.op = .erase .openCell (some 5) := ⟨rfl, rfl, rfl, rfl, rfl⟩

end Sys2Proof.Tests
end

section
/-! SUPPORT. What leaves the Array Table as it is, and what changes its positions and keeps its geometry (spec/02, R20), in the
order of the model. -/

namespace Sys2Proof.Machine

/-! ## What a fold keeps -/

/-- A fold whose every step keeps a reading of the state keeps it. -/
theorem State.foldl_keeps {β γ : Type} (p : State → γ) (f : State → β → State) (h : ∀ u x, p (f u x) = p u)
    (l : List β) (s : State) : p (l.foldl f s) = p s :=
  List.foldlRecOn l f (motive := fun u => p u = p s) rfl fun u hu x _ => (h u x).trans hu

/-! ## The Column Buffer Store and the Lost Extent List leave the Array Table -/

@[simp] theorem State.badLine_table (s : State) (i : Fin 256) (w : Way) (e : ErrorFields) :
    (s.badLine i w e).table = s.table := by
  simp [State.badLine]

@[simp] theorem State.compareWay_table (o : Owner) (x m : Nat) (w : Way) (s : State) :
    (s.compareWay o x m w).1.table = s.table := by
  simp only [State.compareWay]
  split
  · rfl
  · split
    · rfl
    · split
      · split
        · split <;> simp
        · rfl
      · simp

@[simp] theorem State.lookup_table (o : Owner) (x m : Nat) (s : State) : (s.lookup o x m).1.table = s.table := by
  simp only [State.lookup]
  split <;> simp

@[simp] theorem State.lookups_table (o : Owner) (g : Geometry) (stripe : Nat) (ps : List (Nat × Nat)) (s : State) :
    (s.lookups o g stripe ps).1.table = s.table := by
  induction ps generalizing s with
  | nil => rfl
  | cons p ps ih =>
    simp only [State.lookups]
    split <;> simp [ih]

@[simp] theorem State.place_table (x m : Nat) (b : Block) (w : Way) (s : State) : (s.place x m b w).table = s.table :=
  rfl

@[simp] theorem State.fillBlock_table (c : Chan) (x m : Nat) (b : Block) (note : Option Way)
    (shadow : List (Nat × Nat)) (s : State) : (s.fillBlock c x m b note shadow).table = s.table := by
  unfold State.fillBlock
  split
  · split <;> simp
  · rfl

@[simp] theorem State.fillAll_table (c : Chan) (x : Nat) (notes : List RefetchNote) (shadow : List (Nat × Nat))
    (m : Nat) (outcomes : List BlockOutcome) (s : State) : (s.fillAll c x notes shadow m outcomes).table = s.table := by
  fun_induction State.fillAll with
  | case1 => rfl
  | case2 m b rest s note ih => simp [ih]
  | case3 m e rest s ih => exact ih

@[simp] theorem State.updateWay_table (o : Option ErrorOwner) (x m : Nat) (b : Block) (w : Way) (s : State) :
    (s.updateWay o x m b w).table = s.table := by
  simp only [State.updateWay]
  split
  · rfl
  · split
    · rfl
    · split
      · split <;> simp
      · simp

@[simp] theorem State.writeThrough_table (o : Option ErrorOwner) (x m : Nat) (bs : List Block) (s : State) :
    (s.writeThrough o x m bs).table = s.table := by
  induction bs generalizing m s with
  | nil => rfl
  | cons b bs ih => simp [State.writeThrough, ih]

@[simp] theorem State.invalidatePosition_table (x : Nat) (s : State) : (s.invalidatePosition x).table = s.table := rfl

@[simp] theorem State.addLost_table (x first count : Nat) (cause : LostCause) (s : State) :
    (s.addLost x first count cause).2.table = s.table := by
  simp only [State.addLost]
  split
  · rfl
  · split <;> simp

@[simp] theorem State.trimRuns_table (x : Nat) (runs : List (Nat × Nat)) (s : State) :
    (s.trimRuns x runs).table = s.table :=
  State.foldl_keeps State.table _ (fun u (r : Nat × Nat) => u.trim_table x r.1 r.2) _ _

/-! ## The drive channels leave the Array Table, a cancelled spare apart -/

@[simp] theorem State.runArbiter_table (c : Chan) (s : State) : (s.runArbiter c).table = s.table := by
  simp only [State.runArbiter]
  split <;> simp

@[simp] theorem State.runArbiters_table (s : State) : s.runArbiters.table = s.table :=
  State.foldl_keeps State.table _ (fun u c => u.runArbiter_table c) _ _

@[simp] theorem State.handCommand_table (o : Owner) (cmd : DriveCmd) (s : State) :
    (s.handCommand o cmd).table = s.table := by
  unfold State.handCommand
  split
  · split <;> simp
  · simp

@[simp] theorem State.startProbe_table (c : Chan) (s : State) : (s.startProbe c).table = s.table := by
  simp [State.startProbe]

@[simp] theorem State.probeGood_table (c : Chan) (n : Nat) (s : State) : (s.probeGood c n).table = s.table := by
  simp [State.probeGood]

@[simp] theorem State.probeFailed_table (c : Chan) (s : State) : (s.probeFailed c).table = s.table := by
  simp [State.probeFailed]

@[simp] theorem State.progress_table (c : Chan) (i : Fin 4) (slot : Slot) (o : Owner) (cmd : DriveCmd) (next : Nat)
    (outcomes : List BlockOutcome) (n : Nat) (shadow : List (Nat × Nat)) (s : State) :
    (s.progress c i slot o cmd next outcomes n shadow).table = s.table :=
  rfl

@[simp] theorem State.useFree_table (n : Nat) (r : Completion) (s : State) : (s.useFree n r).table = s.table := by
  unfold State.useFree
  split <;> rfl

@[simp] theorem State.readDevice_table (c : Chan) (i : Fin 4) (slot : Slot) (o : Owner) (cmd : DriveCmd) (next : Nat)
    (outcomes : List BlockOutcome) (n : Nat) (shadow : List (Nat × Nat)) (s : State) :
    (s.readDevice c i slot o cmd next outcomes n shadow).table = s.table := by
  simp [State.readDevice]

@[simp] theorem State.readAnswer_table (c : Chan) (i : Fin 4) (slot : Slot) (o : Owner) (cmd : DriveCmd) (next : Nat)
    (outcomes : List BlockOutcome) (n : Nat) (shadow : List (Nat × Nat)) (r : Completion) (s : State) :
    (s.readAnswer c i slot o cmd next outcomes n shadow r).table = s.table := by
  simp only [State.readAnswer]
  split
  · simp
  · simp
  · split
    · split <;> simp
    · simp

@[simp] theorem State.freeSlot_table (c : Chan) (i : Fin 4) (s : State) : (s.freeSlot c i).table = s.table := by
  simp [State.freeSlot]

@[simp] theorem State.continueRead_table (c : Chan) (i : Fin 4) (s : State) : (s.continueRead c i).table = s.table := by
  unfold State.continueRead
  split
  · split <;> simp
  · rfl

@[simp] theorem State.writeFailed_table (c : Chan) (e : ErrorFields) (s : State) :
    (s.writeFailed c e).table = s.table := by
  simp only [State.writeFailed]
  split
  · split
    · split <;> simp
    · simp
  · simp

@[simp] theorem State.writeAnswer_table (c : Chan) (i : Fin 4) (o : Owner) (cmd : DriveCmd) (r : Completion)
    (s : State) : (s.writeAnswer c i o cmd r).table = s.table := by
  simp only [State.writeAnswer]
  split <;> simp

@[simp] theorem State.orphanUpdate_table (c : Chan) (cmd : DriveCmd) (s : State) :
    (s.orphanUpdate c cmd).table = s.table := by
  unfold State.orphanUpdate
  split <;> simp

@[simp] theorem State.orphanAnswer_table (c : Chan) (i : Fin 4) (cmd : DriveCmd) (r : Completion) (s : State) :
    (s.orphanAnswer c i cmd r).table = s.table := by
  simp only [State.orphanAnswer]
  split <;> simp

@[simp] theorem State.probeAnswer_table (c : Chan) (r : Completion) (s : State) :
    (s.probeAnswer c r).table = s.table := by
  unfold State.probeAnswer
  split <;> simp

@[simp] theorem State.completion_table (c : Chan) (tag : Nat) (r : Completion) (s : State) :
    (s.completion c tag r).table = s.table := by
  simp only [State.completion]
  split
  · rfl
  · split
    · simp
    · split
      · simp
      · split <;> simp
      · simp

@[simp] theorem State.commandTimeout_table (c : Chan) (tag : Nat) (s : State) :
    (s.commandTimeout c tag).table = s.table := by
  unfold State.commandTimeout
  split
  · rfl
  · split
    · rfl
    · split <;> simp
    · split <;> simp

@[simp] theorem State.insertion_table (c : Chan) (s : State) : (s.insertion c).table = s.table := by
  simp only [State.insertion]
  split <;> simp

@[simp] theorem State.probeExpiry_table (c : Chan) (s : State) : (s.probeExpiry c).table = s.table := by
  unfold State.probeExpiry
  split <;> simp

/-! ## Stripe locks, segments and requests leave the Array Table -/

@[simp] theorem State.withLocks_table (s : State) (r : LockResult) : (s.withLocks r).table = s.table := rfl

@[simp] theorem State.lock_table (r : Requester) (stripe : Nat) (mode : LockMode) (s : State) :
    (s.lock r stripe mode).table = s.table :=
  rfl

@[simp] theorem State.unlock_table (r : Requester) (s : State) : (s.unlock r).table = s.table := rfl

@[simp] theorem State.giveUp_table (r : Requester) (s : State) : (s.giveUp r).table = s.table := by
  obtain ⟨slt, agenda, h⟩ := State.giveUp_cases r s
  rw [h]

@[simp] theorem State.endRequest_table (r : ExtentReq) (status : Status) (s : State) :
    (s.endRequest r status).table = s.table :=
  rfl

@[simp] theorem State.endSegment_table (r : ExtentReq) (g : Geometry) (s : State) :
    (s.endSegment r g).table = s.table :=
  rfl

@[simp] theorem State.nextSegment_table (tag : Nat) (s : State) : (s.nextSegment tag).table = s.table := by
  unfold State.nextSegment
  split
  · split
    · simp
    · split <;> simp
  · rfl

@[simp] theorem State.segmentRound_table (r : ExtentReq) (g : Geometry) (wanted : List (Nat × Nat)) (s : State) :
    (s.segmentRound r g wanted).table = s.table := by
  simp only [State.segmentRound]
  split <;> simp

@[simp] theorem State.segmentWrites_table (r : ExtentReq) (cmds : List DriveCmd) (s : State) :
    (s.segmentWrites r cmds).table = s.table := by
  simp only [State.segmentWrites]
  split <;> simp

@[simp] theorem State.startRead_table (r : ExtentReq) (g : Geometry) (s : State) :
    (s.startRead r g).table = s.table := by
  simp [State.startRead]

@[simp] theorem State.startWrite_table (r : ExtentReq) (g : Geometry) (s : State) :
    (s.startWrite r g).table = s.table := by
  simp [State.startWrite]

@[simp] theorem State.grantRequest_table (tag : Nat) (s : State) : (s.grantRequest tag).table = s.table := by
  unfold State.grantRequest
  split
  · split
    · split <;> simp
    · rfl
  · rfl

@[simp] theorem State.secondRound_table (r : ExtentReq) (g : Geometry) (turned : List Nat)
    (passed : List (Nat × Nat)) (s : State) : (s.secondRound r g turned passed).table = s.table := by
  simp [State.secondRound]

@[simp] theorem State.computeRead_table (r : ExtentReq) (g : Geometry) (s : State) :
    (s.computeRead r g).table = s.table := by
  simp only [State.computeRead, State.segmentWrites_table]
  exact State.foldl_keeps State.table _ (fun u e => u.handFrame_table _) _ _

@[simp] theorem State.reconstructRound_table (r : ExtentReq) (g : Geometry) (s : State) :
    (s.reconstructRound r g).table = s.table := by
  simp [State.reconstructRound]

@[simp] theorem State.chooseMethod_table (r : ExtentReq) (g : Geometry) (s : State) :
    (s.chooseMethod r g).table = s.table := by
  simp only [State.chooseMethod]
  split <;> simp

@[simp] theorem State.endUnwritten_table (r : ExtentReq) (g : Geometry) (s : State) :
    (s.endUnwritten r g).table = s.table :=
  rfl

@[simp] theorem State.computeWrite_table (r : ExtentReq) (g : Geometry) (s : State) :
    (s.computeWrite r g).table = s.table := by
  simp only [State.computeWrite, apply_ite State.table, State.endUnwritten_table, State.segmentWrites_table, ite_self]

@[simp] theorem State.afterModify_table (r : ExtentReq) (g : Geometry) (s : State) :
    (s.afterModify r g).table = s.table := by
  simp only [State.afterModify]
  split <;> simp

@[simp] theorem State.afterReconstruct_table (r : ExtentReq) (g : Geometry) (s : State) :
    (s.afterReconstruct r g).table = s.table := by
  unfold State.afterReconstruct
  split
  · split <;> simp
  · simp

@[simp] theorem State.afterRead_table (r : ExtentReq) (g : Geometry) (s : State) :
    (s.afterRead r g).table = s.table := by
  unfold State.afterRead
  split
  · split <;> simp
  · simp

@[simp] theorem State.endArrayFailed_table (r : ExtentReq) (g : Geometry) (s : State) :
    (s.endArrayFailed r g).table = s.table :=
  rfl

@[simp] theorem State.advanceRequest_table (tag : Nat) (s : State) : (s.advanceRequest tag).table = s.table := by
  unfold State.advanceRequest
  split
  · split
    · rfl
    · split
      · rfl
      · rfl
      · split
        · simp
        · split <;> simp
  · rfl

@[simp] theorem State.segmentRead_table (tag : Nat) (cmd : DriveCmd) (outcomes : List BlockOutcome) (s : State) :
    (s.segmentRead tag cmd outcomes).table = s.table := by
  unfold State.segmentRead
  split <;> simp

@[simp] theorem State.segmentWritten_table (tag : Nat) (s : State) : (s.segmentWritten tag).table = s.table := by
  unfold State.segmentWritten
  split <;> simp

@[simp] theorem State.failRequest_table (r : ExtentReq) (s : State) : (s.failRequest r).table = s.table := by
  unfold State.failRequest
  split <;> simp

@[simp] theorem State.failRequests_table (s : State) : s.failRequests.table = s.table :=
  State.foldl_keeps State.table _ (fun u r => u.failRequest_table r) _ _

@[simp] theorem State.takeData_table (tag index : Nat) (block : Option Block) (s : State) :
    (s.takeData tag index block).table = s.table := by
  unfold State.takeData
  split
  · split
    · simp only
      split <;> simp
    · simp
  · simp

@[simp] theorem State.acceptExtent_table (r : ExtentReq) (g : Geometry) (s : State) :
    (s.acceptExtent r g).table = s.table :=
  rfl

@[simp] theorem State.takeExtent_table (kind : ExtentKind) (tag first count : Nat) (s : State) :
    (s.takeExtent kind tag first count).table = s.table := by
  unfold State.takeExtent
  split <;> simp

@[simp] theorem State.takeCancel_table (tag target : Nat) (s : State) : (s.takeCancel tag target).table = s.table := by
  unfold State.takeCancel
  split
  · simp
  · split <;> simp [State.cancelWaiting]

@[simp] theorem State.dataWaitExpiry_table (tag : Nat) (s : State) : (s.dataWaitExpiry tag).table = s.table := by
  unfold State.dataWaitExpiry
  split
  · rfl
  · split <;> simp

/-! ## The Checkpoint Store leaves the Array Table -/

@[simp] theorem State.giveRecord_table (r : CheckpointRecord) (s : State) : (s.giveRecord r).table = s.table := by
  obtain ⟨ali, cps, eba, h⟩ := State.giveRecord_cases r s
  rw [h]

@[simp] theorem State.handRecord_table (ts : List Target) (r : PassResult) (s : State) :
    (s.handRecord ts r).table = s.table := by
  obtain ⟨ali, cps, eba, h⟩ := State.handRecord_cases ts r s
  rw [h]

@[simp] theorem State.handProgress_table (s : State) : s.handProgress.table = s.table := State.handRecord_table _ _ _

@[simp] theorem State.storeFault_table (s : State) : s.storeFault.table = s.table := by simp [State.storeFault]

@[simp] theorem State.wornDrop_table (r : CheckpointRecord) (s : State) : (s.wornDrop r).table = s.table := by
  simp [State.wornDrop]

@[simp] theorem State.beginRecord_table (r : CheckpointRecord) (s : State) : (s.beginRecord r).table = s.table := by
  unfold State.beginRecord
  split
  · simp
  · split <;> simp

@[simp] theorem State.servePending_table (s : State) : s.servePending.table = s.table := by
  unfold State.servePending
  split <;> simp

@[simp] theorem State.programGood_table (i : Fin 64) (r : CheckpointRecord) (s : State) :
    (s.programGood i r).table = s.table := by
  simp [State.programGood]

@[simp] theorem State.programFailed_table (i : Fin 64) (r : CheckpointRecord) (s : State) :
    (s.programFailed i r).table = s.table := by
  simp only [State.programFailed]
  split
  · simp
  · split
    · simp
    · split <;> simp

@[simp] theorem State.slotProgramEnd_table (slot : Nat) (ok : Bool) (s : State) :
    (s.slotProgramEnd slot ok).table = s.table := by
  unfold State.slotProgramEnd
  split
  · split
    · split <;> simp
    · rfl
  · rfl

@[simp] theorem State.eraseFailed_table (retire opening : Byte) (answers : Option Nat) (s : State) :
    (s.eraseFailed retire opening answers).table = s.table := by
  simp only [State.eraseFailed]
  split <;> simp

@[simp] theorem State.eraseStepFailed_table (step : EraseStep) (answers : Option Nat) (left : CellsLeft) (s : State) :
    (s.eraseStepFailed step answers left).table = s.table := by
  cases step <;> exact State.eraseFailed_table _ _ _ _

@[simp] theorem State.openCellGood_table (answers : Option Nat) (s : State) :
    (s.openCellGood answers).table = s.table := by
  simp only [State.openCellGood]
  split <;> split <;> simp

@[simp] theorem State.eraseStepEnd_table (step : EraseStep) (ok : Bool) (left : CellsLeft) (s : State) :
    (s.eraseStepEnd step ok left).table = s.table := by
  unfold State.eraseStepEnd
  split
  · split
    · split
      · split
        · rfl
        · rfl
        · simp
      · simp
    · rfl
  · rfl

@[simp] theorem State.eraseStepTimeout_table (left : CellsLeft) (s : State) :
    (s.eraseStepTimeout left).table = s.table := by
  unfold State.eraseStepTimeout
  split <;> simp

@[simp] theorem State.scanEnd_table (s : State) : s.scanEnd.table = s.table := by
  unfold State.scanEnd
  split <;> rfl

/-! ## The jobs of a pass leave the Array Table -/

@[simp] theorem State.putJob_table (j : Job) (s : State) : (s.putJob j).table = s.table := rfl

@[simp] theorem State.jobFails_table (j : Job) (s : State) : (s.jobFails j).table = s.table := rfl

@[simp] theorem State.jobCompletes_table (j : Job) (s : State) : (s.jobCompletes j).table = s.table := rfl

@[simp] theorem State.startJob_table (g : Geometry) (s : State) : (s.startJob g).table = s.table := rfl

@[simp] theorem State.startJobsUpTo_table (g : Geometry) (n : Nat) (s : State) :
    (s.startJobsUpTo g n).table = s.table := by
  induction n generalizing s with
  | zero => rfl
  | succ n ih =>
    unfold State.startJobsUpTo
    split
    · simp [ih]
    · rfl

@[simp] theorem State.startJobs_table (s : State) : s.startJobs.table = s.table := by
  unfold State.startJobs
  split <;> simp

@[simp] theorem State.jobHands_table (j : Job) (cmds : List DriveCmd) (s : State) :
    (s.jobHands j cmds).table = s.table := by
  simp only [State.jobHands]
  split <;> simp

@[simp] theorem State.startReading_table (j : Job) (g : Geometry) (s : State) :
    (s.startReading j g).table = s.table := by
  simp [State.startReading]

@[simp] theorem State.grantJob_table (k : Nat) (s : State) : (s.grantJob k).table = s.table := by
  unfold State.grantJob
  split
  · split <;> simp
  · rfl

@[simp] theorem State.addRow_table (m : Nat) (xs : List Nat) (s : State) : (s.addRow m xs).2.table = s.table := by
  induction xs generalizing s with
  | nil => rfl
  | cons x xs ih =>
    simp only [State.addRow]
    split <;> simp [ih]

@[simp] theorem State.jobRow_table (j : Job) (g : Geometry) (row : Nat) (s : State) :
    (s.jobRow j g row).2.2.table = s.table := by
  simp only [State.jobRow]
  split <;> simp

@[simp] theorem State.jobRows_table (j : Job) (g : Geometry) (rows : List Nat) (s : State) :
    (s.jobRows j g rows).2.table = s.table := by
  induction rows generalizing s with
  | nil => rfl
  | cons row rows ih =>
    simp only [State.jobRows]
    split <;> simp [ih]

@[simp] theorem State.startWriting_table (j : Job) (g : Geometry) (outs : List RowOutcome) (s : State) :
    (s.startWriting j g outs).table = s.table := by
  simp [State.startWriting]

@[simp] theorem State.computeJob_table (j : Job) (g : Geometry) (s : State) : (s.computeJob j g).table = s.table := by
  simp only [State.computeJob]
  split <;> simp

@[simp] theorem State.advanceJob_table (k : Nat) (s : State) : (s.advanceJob k).table = s.table := by
  unfold State.advanceJob
  split
  · split
    · rfl
    · split
      · simp
      · split <;> simp
  · rfl

@[simp] theorem State.jobRead_table (k : Nat) (cmd : DriveCmd) (outcomes : List BlockOutcome) (s : State) :
    (s.jobRead k cmd outcomes).table = s.table := by
  unfold State.jobRead
  split <;> simp

@[simp] theorem State.jobWritten_table (k : Nat) (s : State) : (s.jobWritten k).table = s.table := by
  unfold State.jobWritten
  split <;> simp

@[simp] theorem State.pauseIfEmpty_table (s : State) : s.pauseIfEmpty.table = s.table := by
  unfold State.pauseIfEmpty
  split <;> simp

@[simp] theorem State.cutJobs_table (s : State) : s.cutJobs.table = s.table := by
  obtain ⟨rbc, slt, agenda, h⟩ := State.cutJobs_cases s
  rw [h]

@[simp] theorem State.targetLost_table (x : Nat) (g : Geometry) (s : State) : (s.targetLost x g).table = s.table := by
  obtain ⟨ali, rbc, slt, cps, eba, agenda, h⟩ := State.targetLost_cases x g s
  rw [h]

@[simp] theorem State.passArrayFailed_table (s : State) : s.passArrayFailed.table = s.table := by
  unfold State.passArrayFailed
  split <;> simp

@[simp] theorem State.loseTargetOf_table (x : Nat) (p : PosRec) (s : State) :
    (s.loseTargetOf x p).table = s.table := by
  unfold State.loseTargetOf
  split <;> simp

@[simp] theorem State.arrayFails_table (s : State) : s.arrayFails.table = s.table := by simp [State.arrayFails]

@[simp] theorem State.failFormer_table (c : Option Chan) (cause : FailCause) (s : State) :
    (s.failFormer c cause).1.table = s.table := by
  unfold State.failFormer
  split <;> rfl

/-! ## What changes a position keeps the geometry (R20) -/

/-- The geometry that an Array Table holds. -/
def ArrayTable.geom (t : ArrayTable) : Option Geometry := t.definition.map fun d => d.geom

theorem State.geom_eq_table_geom (s : State) : s.geom = s.table.geom := rfl

@[simp] theorem ArrayTable.setPosition_geom (t : ArrayTable) (x : Nat) (p : PosRec) :
    (t.setPosition x p).geom = t.geom := by
  unfold ArrayTable.setPosition
  split
  · rfl
  · next h => simp [ArrayTable.geom, h]

@[simp] theorem ArrayTable.restarted_geom (t : ArrayTable) : t.restarted.geom = t.geom := by
  simp [ArrayTable.geom, ArrayTable.restarted, Function.comp_def]

@[simp] theorem State.cancelSpare_geom (c : Chan) (s : State) : (s.cancelSpare c).table.geom = s.table.geom := by
  unfold State.cancelSpare
  split
  · rfl
  · split <;> simp

@[simp] theorem State.removal_geom (c : Chan) (s : State) : (s.removal c).table.geom = s.table.geom := by
  simp only [State.removal]
  split
  · rfl
  · split <;> simp

@[simp] theorem State.rebuildPosition_geom (x : Nat) (s : State) :
    (s.rebuildPosition x).table.geom = s.table.geom := by
  unfold State.rebuildPosition
  split <;> simp

@[simp] theorem State.rebuildPositions_geom (xs : List Nat) (s : State) :
    (s.rebuildPositions xs).table.geom = s.table.geom :=
  State.foldl_keeps (fun u => u.table.geom) _ (fun u x => u.rebuildPosition_geom x) _ _

@[simp] theorem State.finishPosition_geom (x : Nat) (s : State) :
    (s.finishPosition x).table.geom = s.table.geom := by
  unfold State.finishPosition
  split <;> simp

@[simp] theorem State.returnPosition_geom (x : Nat) (s : State) :
    (s.returnPosition x).table.geom = s.table.geom := by
  unfold State.returnPosition
  split <;> simp

@[simp] theorem State.endPass_geom (result : PassResult) (s : State) :
    (s.endPass result).table.geom = s.table.geom := by
  simp only [State.endPass, State.latch_table, State.putPass_table, State.handRecord_table]
  exact State.foldl_keeps (fun u => u.table.geom) _ (fun u x => u.returnPosition_geom x) _ _

@[simp] theorem State.endIfDrained_geom (s : State) : s.endIfDrained.table.geom = s.table.geom := by
  unfold State.endIfDrained
  split
  · split <;> simp
  · rfl

@[simp] theorem State.finishTargets_geom (done : List Target) (s : State) :
    (s.finishTargets done).table.geom = s.table.geom := by
  simp only [State.finishTargets]
  split
  · rfl
  · exact State.foldl_keeps (fun u => u.table.geom) _ (fun u (t : Target) => u.finishPosition_geom t.position) _ _

@[simp] theorem State.afterAdvance_geom (old : Nat) (g : Geometry) (s : State) :
    (s.afterAdvance old g).table.geom = s.table.geom := by
  simp only [State.afterAdvance]
  split
  · simp
  · split <;> simp

@[simp] theorem State.advanceFrontier_geom (s : State) : s.advanceFrontier.table.geom = s.table.geom := by
  unfold State.advanceFrontier
  split <;> simp

@[simp] theorem State.failPosition_geom (x : Nat) (p : PosRec) (cause : FailCause) (s : State) :
    (s.failPosition x p cause).table.geom = s.table.geom := by
  simp only [State.failPosition]
  split <;> simp

@[simp] theorem State.failChannel_geom (c : Chan) (cause : FailCause) (s : State) :
    (s.failChannel c cause).table.geom = s.table.geom := by
  unfold State.failChannel
  split
  · rfl
  · split <;> simp

@[simp] theorem State.demand_geom (c : Chan) (s : State) : (s.demand c).table.geom = s.table.geom := by
  unfold State.demand
  split
  · rfl
  · split <;> simp

/-! ## The work of one event keeps the geometry (log 4) -/

@[simp] theorem State.fillFrom_table (o : Owner) (cmd : DriveCmd) (performed : Option Chan)
    (outcomes : List BlockOutcome) (shadow : List (Nat × Nat)) (s : State) :
    (s.fillFrom o cmd performed outcomes shadow).table = s.table := by
  unfold State.fillFrom
  split <;> simp

@[simp] theorem State.readReaches_table (o : Owner) (cmd : DriveCmd) (outcomes : List BlockOutcome) (s : State) :
    (s.readReaches o cmd outcomes).table = s.table := by
  cases o <;> simp [State.readReaches]

@[simp] theorem State.writeReaches_table (o : Owner) (s : State) : (s.writeReaches o).table = s.table := by
  cases o <;> simp [State.writeReaches]

@[simp] theorem State.grantReaches_table (r : Requester) (s : State) : (s.grantReaches r).table = s.table := by
  cases r <;> simp [State.grantReaches]

/-- Every unit of work keeps the geometry: only the failures of positions, the frontier and the end of a pass reach
the Array Table, and they change positions. -/
@[simp] theorem runTask_geom (t : Task) (s : State) : (runTask t s).table.geom = s.table.geom := by
  cases t <;> simp [runTask]

@[simp] theorem State.settle_geom (s : State) : s.settle.table.geom = s.table.geom :=
  State.settle_keeps (fun u => u.table.geom = s.table.geom) (fun t u h => (runTask_geom t u).trans h) (fun _ _ h => h)
    s rfl

/-! ## Requests keep the geometry -/

/-- The guard record's part keeps the geometry, where the owner of the request keeps it (R191). -/
theorem State.passGuard_geom (tag code : Nat) (position : Option Nat) (own : State → State)
    (h : ∀ u, (own u).table.geom = u.table.geom) (s : State) :
    (s.passGuard tag code position own).table.geom = s.table.geom := by
  unfold State.passGuard
  split
  · simp [h]
  · split
    · simp
    · split
      · exact h s
      · split <;> simp [h]

/-- So does the whole way of a request. -/
theorem State.route_geom (tag code : Nat) (position : Option Nat) (own : State → State)
    (h : ∀ u, (own u).table.geom = u.table.geom) (s : State) :
    (s.route tag code position own).table.geom = s.table.geom := by
  unfold State.route
  split
  · split
    · simp
    · exact State.passGuard_geom tag code position own h s
  · rfl

end Sys2Proof.Machine
end

section
/-! SUPPORT. The geometry between definitions (spec/02, R20, R40, R41; O3): the requests and events, and
every command. -/

namespace Sys2Proof.Machine

/-- The checks of a position leave the geometry, where the rest of the request keeps it (R24). -/
theorem State.onPosition_geom (tag x : Nat) (own : ArrayDef → PosRec → State → State)
    (h : ∀ d p u, (own d p u).table.geom = u.table.geom) (s : State) :
    (s.onPosition tag x own).table.geom = s.table.geom := by
  unfold State.onPosition
  split
  · simp
  · split
    · simp
    · split
      · simp
      · exact h _ _ s

/-- So do the checks of a position and a channel. -/
theorem State.onPositionChannel_geom (tag x c : Nat) (own : ArrayDef → PosRec → Chan → State → State)
    (h : ∀ d p ch u, (own d p ch u).table.geom = u.table.geom) (s : State) :
    (s.onPositionChannel tag x c own).table.geom = s.table.geom := by
  refine State.onPosition_geom tag x _ (fun d p u => ?_) s
  split
  · simp
  · exact h _ _ _ u

theorem State.takeFail_geom (tag x : Nat) (s : State) : (s.takeFail tag x).table.geom = s.table.geom := by
  refine State.onPosition_geom tag x _ (fun d p u => ?_) s
  split <;> simp

theorem State.takeAssign_geom (tag x c : Nat) (s : State) : (s.takeAssign tag x c).table.geom = s.table.geom := by
  refine State.onPositionChannel_geom tag x c _ (fun d p ch u => ?_) s
  split
  · simp
  · split
    · simp
    · split <;> simp

theorem State.takeReturn_geom (tag x c : Nat) (s : State) : (s.takeReturn tag x c).table.geom = s.table.geom := by
  refine State.onPositionChannel_geom tag x c _ (fun d p ch u => ?_) s
  split
  · simp
  · split
    · simp
    · split <;> simp

/-- A request that names a bank leaves the Array Table, where the bank does. -/
theorem State.onBank_table (tag b : Nat) (own : BankNo → State → State) (h : ∀ i u, (own i u).table = u.table)
    (s : State) : (s.onBank tag b own).table = s.table := by
  unfold State.onBank
  split
  · simp
  · exact h _ s

/-- A request that names a channel keeps the geometry, where the channel does. -/
theorem State.onChannel_geom (tag c : Nat) (own : Chan → State → State)
    (h : ∀ ch u, (own ch u).table.geom = u.table.geom) (s : State) :
    (s.onChannel tag c own).table.geom = s.table.geom := by
  unfold State.onChannel
  split
  · simp
  · exact h _ s

/-- An event at a channel keeps the geometry, where the channel does. -/
theorem State.atChannel_geom (c : Nat) (own : Chan → State → State)
    (h : ∀ ch u, (own ch u).table.geom = u.table.geom) (s : State) :
    (s.atChannel c own).table.geom = s.table.geom := by
  unfold State.atChannel
  split
  · rfl
  · exact h _ s

theorem State.takeClearBank_table (tag seen : Nat) (i : BankNo) (s : State) :
    (s.takeClearBank tag seen i).table = s.table := by
  simp only [State.takeClearBank]
  split <;> simp

theorem State.takeThreshold_table (tag n enable : Nat) (i : BankNo) (s : State) :
    (s.takeThreshold tag n enable i).table = s.table := by
  simp only [State.takeThreshold]
  split <;> simp

theorem State.takeClearAttention_table (tag : Nat) (seen : Byte) (s : State) :
    (s.takeClearAttention tag seen).table = s.table := by
  simp [State.takeClearAttention]

theorem State.takeCacheMode_table (tag : Nat) (f : CacheFlags) (s : State) :
    (s.takeCacheMode tag f).table = s.table := by
  simp only [State.takeCacheMode]
  split <;> simp [State.setModes]

theorem State.takeShare_table (tag v : Nat) (s : State) : (s.takeShare tag v).table = s.table := by
  simp only [State.takeShare]
  split <;> simp

theorem State.takeSetChannel_table (tag ms auto : Nat) (c : Chan) (s : State) :
    (s.takeSetChannel tag ms auto c).table = s.table := by
  simp [State.takeSetChannel, State.setAutoFail]

theorem State.takeReset_geom (tag : Nat) (c : Chan) (s : State) :
    (s.takeReset tag c).table.geom = s.table.geom := by
  unfold State.takeReset
  split
  · simp
  · split <;> simp

theorem State.takeListLost_table (tag start : Nat) (s : State) : (s.takeListLost tag start).table = s.table := by
  unfold State.takeListLost
  split <;> simp

@[simp] theorem State.loadAll_table (es : List LostExtent) (s : State) : (s.loadAll es).2.table = s.table := by
  induction es generalizing s with
  | nil => rfl
  | cons e es ih =>
    simp only [State.loadAll]
    split <;> simp [ih]

theorem State.takeLoadLost_table (tag : Nat) (es : List LostExtent) (s : State) :
    (s.takeLoadLost tag es).table = s.table := by
  unfold State.takeLoadLost
  split <;> simp

theorem State.takeDropLost_table (tag x first count : Nat) (s : State) :
    (s.takeDropLost tag x first count).table = s.table := by
  unfold State.takeDropLost
  split <;> simp

theorem State.takeLostLimit_table (tag v : Nat) (s : State) : (s.takeLostLimit tag v).table = s.table := by
  simp [State.takeLostLimit]

theorem State.takeStart_geom (tag : Nat) (xs : List Nat) (s : State) :
    (s.takeStart tag xs).table.geom = s.table.geom := by
  unfold State.takeStart
  split <;> simp [State.beginPass]

theorem State.takeAdd_geom (tag x : Nat) (s : State) : (s.takeAdd tag x).table.geom = s.table.geom := by
  unfold State.takeAdd
  split <;> simp [State.addTarget]

theorem State.takePause_table (tag : Nat) (s : State) : (s.takePause tag).table = s.table := by
  unfold State.takePause
  split <;> simp

theorem State.takeContinue_table (tag : Nat) (s : State) : (s.takeContinue tag).table = s.table := by
  unfold State.takeContinue
  split <;> simp

theorem State.takeAbort_table (tag : Nat) (s : State) : (s.takeAbort tag).table = s.table := by
  unfold State.takeAbort
  split <;> simp

theorem State.takeResume_geom (tag : Nat) (s : State) : (s.takeResume tag).table.geom = s.table.geom := by
  unfold State.takeResume
  split <;> simp [State.resumePass]

theorem State.takeErase_table (tag : Nat) (s : State) : (s.takeErase tag).table = s.table := by
  unfold State.takeErase
  split
  · simp
  · split <;> simp

theorem State.takeInterval_table (tag v : Nat) (s : State) : (s.takeInterval tag v).table = s.table := by
  simp [State.takeInterval]

theorem State.takeRestart_table (tag : Nat) (s : State) : (s.takeRestart tag).table = s.table := by
  simp [State.takeRestart]

theorem State.takeGuard_table (tag code position : Nat) (s : State) :
    (s.takeGuard tag code position).table = s.table := by
  unfold State.takeGuard
  split <;> simp

/-- A restart keeps the definition, its positions as R41 leaves them. -/
theorem State.transmitted_geom (s : State) : s.transmitted.table.geom = s.table.geom := by
  unfold State.transmitted
  split
  · rfl
  · split
    · exact s.table.restarted_geom
    · simp

/-! ## What a command answers keeps the geometry -/

/-- An answer whose next state has the geometry of a state. -/
def Answer.KeepsGeom (s : State) (a : Answer) : Prop := ∀ t, a = .next t → t.geom = s.geom

theorem Answer.keepsGeom_next {s t : State} (h : t.table.geom = s.table.geom) :
    Answer.KeepsGeom s (.next t) := by
  rintro _ ⟨⟩
  exact h

/-- A request whose owner keeps the geometry keeps it. -/
theorem Answer.keepsGeom_route {s : State} {tag code : Nat} {p : Option Nat} {own : State → State}
    (h : ∀ u, (own u).table.geom = u.table.geom) : Answer.KeepsGeom s (.next (s.route tag code p own)) :=
  Answer.keepsGeom_next (State.route_geom tag code p own h s)

/-- So does one that sets off work. -/
theorem Answer.keepsGeom_route_settle {s : State} {tag code : Nat} {p : Option Nat} {own : State → State}
    (h : ∀ u, (own u).table.geom = u.table.geom) : Answer.KeepsGeom s (.next (s.route tag code p own).settle) :=
  Answer.keepsGeom_next ((State.settle_geom _).trans (State.route_geom tag code p own h s))

/-- An event at a channel keeps the geometry, with the work that it sets off. -/
theorem Answer.keepsGeom_atChannel_settle {s : State} {c : Nat} {own : Chan → State → State}
    (h : ∀ ch u, (own ch u).table.geom = u.table.geom) : Answer.KeepsGeom s (.next (s.atChannel c own).settle) :=
  Answer.keepsGeom_next ((State.settle_geom _).trans (State.atChannel_geom c own h s))

/-- A table that stays keeps its geometry. -/
theorem table_geom_congr {s t : State} (h : t.table = s.table) : t.table.geom = s.table.geom := congrArg _ h

/-- Every command but DEFINE-ARRAY and COLD_START keeps the geometry. -/
theorem exec_keepsGeom (c : Instr) (s : State) (hdef : ∀ tag w k b0 stripes es, c ≠ .defineArray tag w k b0 stripes es)
    (hcold : ∀ p l, c ≠ .coldStart p l) : Answer.KeepsGeom s (exec c s) := by
  cases c with
  | coldStart p l => exact absurd rfl (hcold p l)
  | defineArray tag w k b0 stripes es => exact absurd rfl (hdef tag w k b0 stripes es)
  | checkpointScanEnd => exact Answer.keepsGeom_next (table_geom_congr s.scanEnd_table)
  | frameDiscarded reason => refine Answer.keepsGeom_next ?_; split <;> simp
  | unknownRequest tag code => refine Answer.keepsGeom_next ?_; split <;> simp
  | data tag index block => refine Answer.keepsGeom_next ?_; split <;> simp
  | frameTransmitted => exact Answer.keepsGeom_next s.transmitted_geom
  | receivedFrameNotTaken => exact Answer.keepsGeom_next rfl
  | guard tag code position =>
    refine Answer.keepsGeom_next ?_
    split
    · split
      · simp
      · exact table_geom_congr (State.takeGuard_table _ _ _ s)
    · rfl
  | identify tag => exact Answer.keepsGeom_route fun u => by simp
  | queryArray tag => exact Answer.keepsGeom_route fun u => by simp
  | queryPass tag => exact Answer.keepsGeom_route fun u => by simp
  | queryStore tag => exact Answer.keepsGeom_route fun u => by simp
  | queryAttention tag => exact Answer.keepsGeom_route fun u => by simp
  | readCheckpoint tag => exact Answer.keepsGeom_route fun u => by simp
  | queryChannel tag c => exact Answer.keepsGeom_route (State.onChannel_geom _ _ _ fun ch u => by simp)
  | queryBank tag b =>
    exact Answer.keepsGeom_route fun u => table_geom_congr (State.onBank_table _ _ _ (fun i u => by simp) u)
  | failMember tag x => exact Answer.keepsGeom_route_settle (State.takeFail_geom _ _)
  | assignSpare tag x c => exact Answer.keepsGeom_route (State.takeAssign_geom _ _ _)
  | returnMember tag x c => exact Answer.keepsGeom_route (State.takeReturn_geom _ _ _)
  | startRebuild tag xs => exact Answer.keepsGeom_route_settle (State.takeStart_geom _ _)
  | addTarget tag x => exact Answer.keepsGeom_route (State.takeAdd_geom _ _)
  | pauseRebuild tag => exact Answer.keepsGeom_route fun u => table_geom_congr (State.takePause_table _ u)
  | continueRebuild tag => exact Answer.keepsGeom_route_settle fun u => table_geom_congr (State.takeContinue_table _ u)
  | abortRebuild tag => exact Answer.keepsGeom_route_settle fun u => table_geom_congr (State.takeAbort_table _ u)
  | resumeRebuild tag => exact Answer.keepsGeom_route_settle (State.takeResume_geom _)
  | readExtent tag first count => exact Answer.keepsGeom_route_settle fun u => by simp
  | writeExtent tag first count => exact Answer.keepsGeom_route_settle fun u => by simp
  | cancel tag target => exact Answer.keepsGeom_route_settle fun u => by simp
  | dataWaitExpiry tag => exact Answer.keepsGeom_next (by simp)
  | setShare tag v => exact Answer.keepsGeom_route fun u => table_geom_congr (State.takeShare_table _ _ u)
  | setChannel tag c ms auto =>
    exact Answer.keepsGeom_route
      (State.onChannel_geom _ _ _ fun ch u => table_geom_congr (State.takeSetChannel_table _ _ _ ch u))
  | resetChannel tag c => exact Answer.keepsGeom_route_settle (State.onChannel_geom _ _ _ (State.takeReset_geom _))
  | cacheMode tag m0 m1 r0 r1 i0 i1 =>
    exact Answer.keepsGeom_route fun u => table_geom_congr (State.takeCacheMode_table _ _ u)
  | listLost tag start => exact Answer.keepsGeom_route fun u => table_geom_congr (State.takeListLost_table _ _ u)
  | loadLost tag es => exact Answer.keepsGeom_route fun u => table_geom_congr (State.takeLoadLost_table _ _ u)
  | dropLost tag x first count =>
    exact Answer.keepsGeom_route fun u => table_geom_congr (State.takeDropLost_table _ _ _ _ u)
  | setLostLimit tag v => exact Answer.keepsGeom_route fun u => table_geom_congr (State.takeLostLimit_table _ _ u)
  | eraseCheckpoints tag => exact Answer.keepsGeom_route fun u => table_geom_congr (State.takeErase_table _ u)
  | setInterval tag v => exact Answer.keepsGeom_route fun u => table_geom_congr (State.takeInterval_table _ _ u)
  | clearBank tag b seen =>
    exact Answer.keepsGeom_route fun u =>
      table_geom_congr (State.onBank_table _ _ _ (State.takeClearBank_table _ _) u)
  | setThreshold tag b n enable =>
    exact Answer.keepsGeom_route fun u =>
      table_geom_congr (State.onBank_table _ _ _ (State.takeThreshold_table _ _ _) u)
  | clearAttention tag seen =>
    exact Answer.keepsGeom_route fun u => table_geom_congr (State.takeClearAttention_table _ _ u)
  | restart tag => exact Answer.keepsGeom_route fun u => table_geom_congr (State.takeRestart_table _ u)
  | insertion c => exact Answer.keepsGeom_next (State.atChannel_geom _ _ (fun ch u => by simp) s)
  | removal c => exact Answer.keepsGeom_atChannel_settle State.removal_geom
  | capacityCompletion c t r => exact Answer.keepsGeom_atChannel_settle fun ch u => by simp
  | probeAllowanceExpiry c => exact Answer.keepsGeom_atChannel_settle fun ch u => by simp
  | readCompletion c t r => exact Answer.keepsGeom_atChannel_settle fun ch u => by simp
  | writeCompletion c t r => exact Answer.keepsGeom_atChannel_settle fun ch u => by simp
  | unmatchedCompletion c t r => exact Answer.keepsGeom_atChannel_settle fun ch u => by simp
  | completionDiscarded c t r => exact Answer.keepsGeom_atChannel_settle fun ch u => by simp
  | commandTimeout c t => exact Answer.keepsGeom_atChannel_settle fun ch u => by simp
  | slotProgramEnd slot ok => exact Answer.keepsGeom_next (by simp)
  | slotProgramTimeout slot => exact Answer.keepsGeom_next (by simp)
  | retireCellProgrammed ok left => exact Answer.keepsGeom_next (by simp)
  | eraseEnd ok left => exact Answer.keepsGeom_next (by simp)
  | openCellProgrammed ok left => exact Answer.keepsGeom_next (by simp)
  | eraseStepTimeout left => exact Answer.keepsGeom_next (by simp)

/-- Settles O3: only the failures, spares and rebuilds of positions reach the Array Table between definitions. -/
theorem geometryFixedBetweenDefinitions : Obligations.GeometryFixedBetweenDefinitions :=
  fun c s t h hdef hcold => exec_keepsGeom c s hdef hcold t h

end Sys2Proof.Machine
end

section
/-! SUPPORT. The field of the bytes (spec/01, R11, R12; O5): doubling is additive, so the product is commutative and
associative and distributes over the sum, and the powers of the generator give every inverse. -/

namespace Sys2Proof.Machine

/-! ## Doubling -/

/-- Doubling is additive. -/
theorem gfDouble_xor (a b : Byte) : gfDouble (a ^^^ b) = gfDouble a ^^^ gfDouble b := by
  apply BitVec.eq_of_getLsbD_eq
  intro j hj
  simp only [BitVec.getLsbD_xor, gfDouble_bits _ j hj, Bool.and_xor_distrib_left]
  simp only [Bool.xor_assoc, Bool.xor_left_comm]

/-- So are k doublings. -/
theorem gfPow_xor (k : Nat) (a b : Byte) : gfPow k (a ^^^ b) = gfPow k a ^^^ gfPow k b := by
  induction k with
  | zero => rfl
  | succ k ih => rw [gfPow, ih, gfDouble_xor]; rfl

theorem gfPow_add (m n : Nat) (a : Byte) : gfPow (m + n) a = gfPow m (gfPow n a) := by
  induction m with
  | zero => rw [Nat.zero_add]; rfl
  | succ m ih => rw [Nat.succ_add, gfPow, ih]; rfl

/-! ## The general product -/

/-- A map of bytes that is additive and commutes with doubling. -/
structure GfLinear (f : Byte → Byte) : Prop where
  xor : ∀ a b, f (a ^^^ b) = f a ^^^ f b
  double : ∀ a, f (gfDouble a) = gfDouble (f a)

theorem GfLinear.pow {f : Byte → Byte} (h : GfLinear f) (k : Nat) (a : Byte) : f (gfPow k a) = gfPow k (f a) := by
  induction k with
  | zero => rfl
  | succ k ih => rw [gfPow, h.double, ih]; rfl

theorem GfLinear.zero {f : Byte → Byte} (h : GfLinear f) : f 0 = 0 := by simpa using h.xor 0 0

/-- Such a map passes through a product, since the product is a sum of doublings (R11). -/
theorem GfLinear.mul {f : Byte → Byte} (h : GfLinear f) (a b : Byte) : f (gfMul a b) = gfMul (f a) b := by
  have fold : ∀ (ks : List Nat) (x y : Byte), f x = y →
      f (ks.foldl (fun acc i => if b.getLsbD i then acc ^^^ gfPow i a else acc) x) =
        ks.foldl (fun acc i => if b.getLsbD i then acc ^^^ gfPow i (f a) else acc) y := by
    intro ks
    induction ks with
    | nil => exact fun x y hxy => hxy
    | cons k ks ih =>
      intro x y hxy
      apply ih
      dsimp only
      split
      · rw [h.xor, hxy, h.pow]
      · exact hxy
  exact fold _ _ _ h.zero

theorem gfLinear_pow (k : Nat) : GfLinear (gfPow k) where
  xor := gfPow_xor k
  double a := (gfPow_add k 1 a).symm.trans (by rw [Nat.add_comm, gfPow_add]; rfl)

/-- The first n powers of the generator, selected by the bits of a byte, are its first n bits. -/
theorem sum_pow_one_bit (a : Byte) (n j : Nat) (hn : n ≤ 8) (hj : j < 8) :
    ((List.range n).foldl (fun acc i => if a.getLsbD i then acc ^^^ gfPow i 1 else acc) 0).getLsbD j =
      (decide (j < n) && a.getLsbD j) := by
  have power : ∀ i < 8, ∀ j < 8, (gfPow i 1).getLsbD j = decide (j = i) := by decide +kernel
  induction n with
  | zero => simp
  | succ n ih =>
    rw [List.range_succ, List.foldl_append, List.foldl_cons, List.foldl_nil]
    by_cases ha : a.getLsbD n = true
    · rw [if_pos ha, BitVec.getLsbD_xor, ih (by omega), power n (by omega) j hj]
      by_cases hjn : j = n
      · simp [hjn, ha]
      · simp [hjn, show j < n + 1 ↔ j < n by omega]
    · rw [if_neg ha, ih (by omega)]
      by_cases hjn : j = n
      · simp [hjn, ha]
      · simp [show j < n + 1 ↔ j < n by omega]

theorem gfMul_one_left (a : Byte) : gfMul 1 a = a :=
  BitVec.eq_of_getLsbD_eq fun j hj => by rw [gfMul, sum_pow_one_bit a 8 j le_rfl hj, decide_eq_true hj, Bool.true_and]

/-- The product by a power of the generator is that many doublings (R11). -/
theorem gfMul_pow_one (k : Nat) (a : Byte) : gfMul (gfPow k 1) a = gfPow k a := by
  rw [← (gfLinear_pow k).mul, gfMul_one_left]

/-- The product distributes over the sum. -/
theorem gfMul_xor_left (a b c : Byte) : gfMul (a ^^^ b) c = gfMul a c ^^^ gfMul b c := by
  have fold : ∀ (ks : List Nat) (x y : Byte),
      ks.foldl (fun acc i => if c.getLsbD i then acc ^^^ gfPow i (a ^^^ b) else acc) (x ^^^ y) =
        ks.foldl (fun acc i => if c.getLsbD i then acc ^^^ gfPow i a else acc) x ^^^
          ks.foldl (fun acc i => if c.getLsbD i then acc ^^^ gfPow i b else acc) y := by
    intro ks
    induction ks with
    | nil => exact fun x y => rfl
    | cons k ks ih =>
      intro x y
      simp only [List.foldl_cons]
      rw [← ih]
      congr 1
      split
      · rw [gfPow_xor]
        ac_rfl
      · rfl
  exact fold _ 0 0

/-- The product by a byte passes through doubling. -/
theorem gfLinear_mul (c : Byte) : GfLinear (fun a => gfMul a c) where
  xor a b := gfMul_xor_left a b c
  double a := ((gfLinear_pow 1).mul a c).symm

theorem gfMul_comm (a b : Byte) : gfMul a b = gfMul b a := by
  calc gfMul a b = gfMul (gfMul 1 a) b := by rw [gfMul_one_left]
    _ = gfMul (gfMul 1 b) a := (gfLinear_mul b).mul 1 a
    _ = gfMul b a := by rw [gfMul_one_left]

theorem gfMul_right_comm (a b c : Byte) : gfMul (gfMul a b) c = gfMul (gfMul a c) b := (gfLinear_mul c).mul a b

theorem gfMul_assoc (a b c : Byte) : gfMul (gfMul a b) c = gfMul a (gfMul b c) := by
  rw [gfMul_comm a b, gfMul_right_comm, gfMul_comm (gfMul b c)]

theorem gfMul_one_right (a : Byte) : gfMul a 1 = a := by rw [gfMul_comm, gfMul_one_left]

theorem gfMul_xor_right (a b c : Byte) : gfMul a (b ^^^ c) = gfMul a b ^^^ gfMul a c := by
  simp only [gfMul_comm a, gfMul_xor_left]

/-- A byte has one inverse at most. -/
theorem gfMul_inverse_unique {a c c' : Byte} (h : gfMul a c = 1) (h' : gfMul a c' = 1) : c' = c :=
  calc c' = gfMul (gfMul a c) c' := by rw [h, gfMul_one_left]
    _ = gfMul (gfMul a c') c := gfMul_right_comm a c c'
    _ = c := by rw [h', gfMul_one_left]

/-! ## Powers of the generator -/

theorem gfPow_eq_iterate (k : Nat) (a : Byte) : gfPow k a = gfDouble^[k] a := by
  induction k with
  | zero => rfl
  | succ k ih => rw [gfPow, ih, Function.iterate_succ_apply']

theorem gfPow_255_one : gfPow 255 1 = 1 := by decide +kernel

/-- No smaller power of the generator is 1: the order divides 255, and it does not divide 85, 51 or 15. -/
theorem minimalPeriod_gfDouble : Function.minimalPeriod gfDouble 1 = 255 := by
  have hdvd : Function.minimalPeriod gfDouble 1 ∣ 255 :=
    Function.IsPeriodicPt.minimalPeriod_dvd ((gfPow_eq_iterate 255 1).symm.trans gfPow_255_one)
  have hnot : ∀ n, gfPow n 1 ≠ 1 → ¬Function.minimalPeriod gfDouble 1 ∣ n := fun n hn h =>
    hn ((gfPow_eq_iterate n 1).trans (Function.isPeriodicPt_iff_minimalPeriod_dvd.2 h))
  have h85 := hnot 85 (by decide +kernel)
  have h51 := hnot 51 (by decide +kernel)
  have h15 := hnot 15 (by decide +kernel)
  have hdiv : ∀ d ∈ Nat.divisors 255, ¬d ∣ 85 → ¬d ∣ 51 → ¬d ∣ 15 → d = 255 := by decide +kernel
  exact hdiv _ (Nat.mem_divisors.2 ⟨hdvd, by decide⟩) h85 h51 h15

/-- A doubling more after k brings the power k of the generator to 1 when 255 are done. -/
theorem gfPow_sub_gfPow {k : Nat} (hk : k < 255) : gfPow (255 - k) (gfPow k 1) = 1 := by
  rw [← gfPow_add, Nat.sub_add_cancel hk.le, gfPow_255_one]

/-- The generator's 255 powers differ and none is 00H, so they are every other byte. -/
theorem exists_eq_gfPow (a : Byte) (h : a ≠ 0) : ∃ k < 255, gfPow k 1 = a := by
  have hinj : Set.InjOn (fun k => gfPow k 1) (Finset.range 255) := by
    have := Function.iterate_injOn_Iio_minimalPeriod (f := gfDouble) (x := 1)
    simpa only [minimalPeriod_gfDouble, gfPow_eq_iterate, Finset.coe_range] using this
  have hsub : (Finset.range 255).image (fun k => gfPow k 1) ⊆ Finset.univ.erase 0 := by
    refine Finset.image_subset_iff.2 fun k hk => Finset.mem_erase.2 ⟨fun h0 => ?_, Finset.mem_univ _⟩
    have hone := gfPow_sub_gfPow (Finset.mem_range.1 hk)
    rw [h0, (gfLinear_pow _).zero] at hone
    exact absurd hone (by decide)
  have hcard : (Finset.univ.erase (0 : Byte)).card ≤ ((Finset.range 255).image fun k => gfPow k 1).card := by
    rw [Finset.card_image_of_injOn hinj, Finset.card_erase_of_mem (Finset.mem_univ _), Finset.card_univ,
      Finset.card_range, ← FinEnum.card_eq_fintypeCard, FinEnum.card_bitVec]
    decide
  have ha : a ∈ (Finset.range 255).image fun k => gfPow k 1 := by
    rw [Finset.eq_of_subset_of_card_le hsub hcard]
    exact Finset.mem_erase.2 ⟨h, Finset.mem_univ a⟩
  simpa using ha

/-- Every byte other than 0 has an inverse (R12): with a the power k of the generator, the power 255 - k. -/
theorem exists_gfMul_eq_one (a : Byte) (h : a ≠ 0) : ∃ c, gfMul a c = 1 := by
  obtain ⟨k, hk, rfl⟩ := exists_eq_gfPow a h
  exact ⟨gfPow (255 - k) 1, by rw [gfMul_comm, gfMul_pow_one, gfPow_sub_gfPow hk]⟩

/-! ## The constant table (R12) -/

theorem coefficient_eq_pow : ∀ d < 9, coefficient d = gfPow d 1 := by decide +kernel

theorem coefficient_mul_inverse : ∀ d < 9, gfMul (coefficient d) (inverseCoefficient d) = 1 := by decide +kernel

theorem coefficients_differ : ∀ x < 9, ∀ y < 9, x < y → coefficient x ^^^ coefficient y ≠ 0 := by decide +kernel

theorem pairFactor_mul : ∀ x < 9, ∀ y < 9, x < y → gfMul (pairFactor x y) (coefficient x ^^^ coefficient y) = 1 := by
  decide +kernel

/-- Settles O5: every byte but 0 is a power of the generator, which gives its inverse; the tables are evaluated. -/
theorem coefficientTables : Obligations.CoefficientTables := by
  refine ⟨fun a ha => ?_, fun d hd => ⟨coefficient_eq_pow d hd, coefficient_mul_inverse d hd⟩,
    fun x hx y hy hxy => ⟨coefficients_differ x hx y hy hxy, pairFactor_mul x hx y hy hxy⟩⟩
  obtain ⟨c, hc⟩ := exists_gfMul_eq_one a ha
  exact ⟨c, hc, fun c' hc' => gfMul_inverse_unique hc hc'⟩

end Sys2Proof.Machine
end

section
/-! SUPPORT. The arithmetic of rows (spec/01, R13 to R18; O7, O6): products of whole blocks, what one changed block does
to P and Q, the residues of a row, and its reconstruction. -/

namespace Sys2Proof.Machine

/-! ## Products of blocks -/

/-- A block is its bytes. -/
theorem Block.ext_byte {a b : Block} (h : ∀ i < 4096, a.byte i = b.byte i) : a = b := by
  apply BitVec.eq_of_getLsbD_eq
  intro j hj
  have hn : j < 32768 := hj
  have hm : j % 8 < 8 := Nat.mod_lt j (by decide)
  have hbit := congrArg (fun x : Byte => x.getLsbD (j % 8)) (h (j / 8) (by omega))
  simpa only [Block.byte_bit _ _ _ hm, Nat.div_add_mod] using hbit

theorem Block.mul_xor (c : Byte) (a b : Block) : Block.mul c (a ^^^ b) = Block.mul c a ^^^ Block.mul c b :=
  Block.ext_byte fun i hi => by simp only [Block.xor_byte, Block.mul_byte _ _ i hi, gfMul_xor_left]

theorem Block.xor_mul (c d : Byte) (b : Block) : Block.mul (c ^^^ d) b = Block.mul c b ^^^ Block.mul d b :=
  Block.ext_byte fun i hi => by simp only [Block.xor_byte, Block.mul_byte _ _ i hi, gfMul_xor_right]

theorem Block.mul_mul (c d : Byte) (b : Block) : Block.mul c (Block.mul d b) = Block.mul (gfMul c d) b :=
  Block.ext_byte fun i hi => by simp only [Block.mul_byte _ _ i hi, gfMul_assoc, gfMul_comm c d]

theorem Block.mul_one (b : Block) : Block.mul 1 b = b :=
  Block.ext_byte fun i hi => by rw [Block.mul_byte _ _ i hi, gfMul_one_right]

/-- The product by an inverse undoes a product. -/
theorem Block.mul_inverse {c d : Byte} (h : gfMul c d = 1) (b : Block) : Block.mul c (Block.mul d b) = b := by
  rw [Block.mul_mul, h, Block.mul_one]

@[simp] theorem Block.xor_zero (a : Block) : a ^^^ Block.zero = a := BitVec.xor_zero

/-- A sum that holds a block twice lacks it. -/
theorem Block.xor_xor_cancel (a b : Block) : a ^^^ (a ^^^ b) = b := by
  rw [← BitVec.xor_assoc, BitVec.xor_self, BitVec.zero_xor]

/-! ## The two sums of a row -/

/-- A changed data block changes P by its change (R13, R18). -/
theorem plainSum_set (data : List Block) (i : Nat) (b : Block) (hi : i < data.length) :
    plainSum (data.set i b) = plainSum data ^^^ (data.getD i Block.zero ^^^ b) := by
  induction data generalizing i with
  | nil => simp at hi
  | cons a data ih =>
    cases i with
    | zero =>
      simp only [List.set_cons_zero, plainSum, List.getD_cons_zero]
      rw [show a ^^^ plainSum data ^^^ (a ^^^ b) = a ^^^ (a ^^^ (b ^^^ plainSum data)) by ac_rfl, Block.xor_xor_cancel]
    | succ i =>
      simp only [List.set_cons_succ, plainSum, List.getD_cons_succ, ih i (Nat.lt_of_succ_lt_succ hi)]
      ac_rfl

/-- A changed data block changes Q by its change times the coefficient of its data index (R13, R18). -/
theorem weightedSum_set (d : Nat) (data : List Block) (i : Nat) (b : Block) (hi : i < data.length) :
    weightedSum d (data.set i b) =
      weightedSum d data ^^^ Block.mul (coefficient (d + i)) (data.getD i Block.zero ^^^ b) := by
  induction data generalizing d i with
  | nil => simp at hi
  | cons a data ih =>
    cases i with
    | zero =>
      simp only [List.set_cons_zero, weightedSum, List.getD_cons_zero, Block.mul_xor, Nat.add_zero]
      generalize Block.mul (coefficient d) a = a'
      generalize Block.mul (coefficient d) b = b'
      rw [show a' ^^^ weightedSum (d + 1) data ^^^ (a' ^^^ b') = a' ^^^ (a' ^^^ (b' ^^^ weightedSum (d + 1) data)) by
        ac_rfl, Block.xor_xor_cancel]
    | succ i =>
      simp only [List.set_cons_succ, weightedSum, List.getD_cons_succ, ih (d + 1) i (Nat.lt_of_succ_lt_succ hi)]
      rw [show d + 1 + i = d + (i + 1) by omega]
      ac_rfl

/-- Settles O7: one changed block changes each of the two sums by its own term. -/
theorem deltaAgreesWithEncoding : Obligations.DeltaAgreesWithEncoding := by
  intro data d b _ hd
  rw [encode, plainSum_set data d b hd, weightedSum_set 0 data d b hd, Nat.zero_add]
  rfl

/-! ## A row that lacks blocks (R14) -/

/-- The data blocks that a row supplies are those of a full set. -/
structure Row.Supplies (r : Row) (data : List Block) : Prop where
  length : r.data.length = data.length
  held : ∀ d b, d < data.length → r.data.getD d none = some b → data.getD d Block.zero = b

theorem Row.mem_erasedData {r : Row} {d : Nat} :
    d ∈ r.erasedData ↔ d < r.data.length ∧ r.data.getD d none = none := by
  simp only [Row.erasedData, List.mem_filter, List.mem_range, Option.isNone_iff_eq_none]

theorem Row.erasedData_ascending (r : Row) : r.erasedData.Pairwise (· < ·) := List.pairwise_lt_range.filter _

variable {r : Row} {data : List Block}

theorem Row.Supplies.getD_eq (h : r.Supplies data) {d : Nat} (hd : d < data.length) :
    r.data.getD d none = if d ∈ r.erasedData then none else some (data.getD d Block.zero) := by
  cases hb : r.data.getD d none with
  | none => rw [if_pos (Row.mem_erasedData.2 ⟨h.length ▸ hd, hb⟩)]
  | some b =>
    have hmem : d ∉ r.erasedData := fun hm => by
      have := (Row.mem_erasedData.1 hm).2
      simp_all
    rw [if_neg hmem, h.held d b hd hb]

/-- With the erased blocks found, the data is in place. -/
theorem Row.Supplies.withData_eq (h : r.Supplies data) {found : List (Nat × Block)}
    (hf : ∀ x ∈ r.erasedData, (found.find? fun e => e.1 == x).map (fun e => e.2) = some (data.getD x Block.zero)) :
    r.withData found = data := by
  refine List.ext_getElem (by simp [Row.withData, h.length]) fun d hd hd' => ?_
  simp only [Row.withData, List.getElem_map, List.getElem_range, h.getD_eq hd']
  by_cases hm : d ∈ r.erasedData
  · simp [hm, hf d hm, hd']
  · simp [hm, hd']

/-- A row with zeros at some data indices. -/
def zeroedAt (es : List Nat) (data : List Block) : List Block := es.foldl (fun l x => l.set x Block.zero) data

@[simp] theorem length_zeroedAt (es : List Nat) (data : List Block) : (zeroedAt es data).length = data.length := by
  induction es generalizing data with
  | nil => rfl
  | cons e es ih => exact (ih _).trans (List.length_set ..)

theorem getD_zeroedAt (es : List Nat) (data : List Block) (d : Nat) :
    (zeroedAt es data).getD d Block.zero = if d ∈ es then Block.zero else data.getD d Block.zero := by
  induction es generalizing data with
  | nil => simp [zeroedAt]
  | cons e es ih =>
    rw [zeroedAt, List.foldl_cons, ← zeroedAt, ih]
    by_cases hm : d ∈ es
    · simp [hm]
    · by_cases he : e = d
      · subst he
        simp only [hm, if_false, List.mem_cons, true_or, if_true, List.getD_eq_getElem?_getD, List.getElem?_set]
        split <;> rfl
      · simp [hm, he, Ne.symm he]

/-- The residues of a row are made of its data with zeros where it is erased (R14). -/
theorem Row.Supplies.filled_eq (h : r.Supplies data) :
    r.data.map (fun b => b.getD Block.zero) = zeroedAt r.erasedData data := by
  refine List.ext_getElem (by simp [h.length]) fun d hd hd' => ?_
  have hdl : d < data.length := by rwa [length_zeroedAt] at hd'
  rw [← List.getD_eq_getElem _ Block.zero hd', getD_zeroedAt, List.getElem_map, ← List.getD_eq_getElem _ none,
    h.getD_eq hdl]
  split <;> rfl

/-- With one data block erased, the residue P′ is that block (R15). -/
theorem Row.Supplies.residueP_one (h : r.Supplies data) {x : Nat} (hx : x < data.length) (he : r.erasedData = [x]) :
    r.residueP (encode data).1 = data.getD x Block.zero := by
  rw [Row.residueP, h.filled_eq, he]
  simp only [encode, zeroedAt, List.foldl_cons, List.foldl_nil, plainSum_set _ _ _ hx, Block.xor_xor_cancel,
    Block.xor_zero]

/-- With one data block erased, the residue Q′ is its product by its coefficient (R16). -/
theorem Row.Supplies.residueQ_one (h : r.Supplies data) {x : Nat} (hx : x < data.length) (he : r.erasedData = [x]) :
    r.residueQ (encode data).2 = Block.mul (coefficient x) (data.getD x Block.zero) := by
  rw [Row.residueQ, h.filled_eq, he]
  simp only [encode, zeroedAt, List.foldl_cons, List.foldl_nil, weightedSum_set _ _ _ _ hx, Block.xor_xor_cancel,
    Block.xor_zero, Nat.zero_add]

/-- A second block is not touched by the zero in the place of a first. -/
theorem getD_set_ne {x y : Nat} (hxy : x ≠ y) (b : Block) :
    (data.set x b).getD y Block.zero = data.getD y Block.zero := by
  simp [hxy]

/-- With two data blocks erased, the residue P′ is their sum (R17). -/
theorem Row.Supplies.residueP_two (h : r.Supplies data) {x y : Nat} (hx : x < data.length) (hy : y < data.length)
    (hxy : x ≠ y) (he : r.erasedData = [x, y]) :
    r.residueP (encode data).1 = data.getD x Block.zero ^^^ data.getD y Block.zero := by
  rw [Row.residueP, h.filled_eq, he]
  simp only [encode, zeroedAt, List.foldl_cons, List.foldl_nil, plainSum_set _ x _ hx,
    plainSum_set (data.set x _) y _ ((List.length_set ..).symm ▸ hy), getD_set_ne hxy, Block.xor_zero, BitVec.xor_assoc,
    Block.xor_xor_cancel]

/-- With two data blocks erased, the residue Q′ is the sum of their products (R17). -/
theorem Row.Supplies.residueQ_two (h : r.Supplies data) {x y : Nat} (hx : x < data.length) (hy : y < data.length)
    (hxy : x ≠ y) (he : r.erasedData = [x, y]) :
    r.residueQ (encode data).2 =
      Block.mul (coefficient x) (data.getD x Block.zero) ^^^ Block.mul (coefficient y) (data.getD y Block.zero) := by
  rw [Row.residueQ, h.filled_eq, he]
  simp only [encode, zeroedAt, List.foldl_cons, List.foldl_nil, weightedSum_set _ _ x _ hx,
    weightedSum_set _ (data.set x _) y _ ((List.length_set ..).symm ▸ hy), getD_set_ne hxy, Block.xor_zero,
    BitVec.xor_assoc, Block.xor_xor_cancel, Nat.zero_add]

/-- The later of two erased blocks from the residues (R17). -/
theorem later_from_residues {x y : Nat} (hx : x < 9) (hy : y < 9) (hxy : x < y) (a b : Block) :
    Block.mul (pairFactor x y) ((Block.mul (coefficient x) a ^^^ Block.mul (coefficient y) b) ^^^
      Block.mul (coefficient x) (a ^^^ b)) = b := by
  have hsum : (Block.mul (coefficient x) a ^^^ Block.mul (coefficient y) b) ^^^ Block.mul (coefficient x) (a ^^^ b) =
      Block.mul (coefficient x ^^^ coefficient y) b := by
    rw [Block.mul_xor, Block.xor_mul]
    generalize Block.mul (coefficient x) a = a'
    generalize Block.mul (coefficient x) b = b'
    generalize Block.mul (coefficient y) b = c'
    calc a' ^^^ c' ^^^ (a' ^^^ b') = a' ^^^ (a' ^^^ (b' ^^^ c')) := by ac_rfl
      _ = b' ^^^ c' := Block.xor_xor_cancel _ _
  rw [hsum, Block.mul_inverse (pairFactor_mul x hx y hy hxy)]

/-! ## Reconstruction, by what is erased -/

theorem reconstruct_no_data (h : r.erasedData = []) : reconstruct r = some (r.complete (r.withData [])) := by
  have hc : ¬2 < r.erasedCount := by
    rw [Row.erasedCount, h]
    cases r.p <;> cases r.q <;> simp
  rw [reconstruct, if_neg hc, h]

theorem reconstruct_one_by_p {x : Nat} {p : Block} (h : r.erasedData = [x]) (hp : r.p = some p) :
    reconstruct r = some (r.complete (r.withData [(x, r.residueP p)])) := by
  have hc : ¬2 < r.erasedCount := by
    rw [Row.erasedCount, h, hp]
    cases r.q <;> simp
  rw [reconstruct, if_neg hc, h, hp]

theorem reconstruct_one_by_q {x : Nat} {q : Block} (h : r.erasedData = [x]) (hp : r.p = none) (hq : r.q = some q) :
    reconstruct r =
      some (r.complete (r.withData [(x, Block.mul (inverseCoefficient x) (r.residueQ q))])) := by
  have hc : ¬2 < r.erasedCount := by simp [Row.erasedCount, h, hp, hq]
  rw [reconstruct, if_neg hc, h, hp, hq]

theorem reconstruct_two {x y : Nat} {p q dy : Block} (h : r.erasedData = [x, y]) (hp : r.p = some p) (hq : r.q = some q)
    (hdy : dy = Block.mul (pairFactor x y) (r.residueQ q ^^^ Block.mul (coefficient x) (r.residueP p))) :
    reconstruct r = some (r.complete (r.withData [(x, r.residueP p ^^^ dy), (y, dy)])) := by
  have hc : ¬2 < r.erasedCount := by simp [Row.erasedCount, h, hp, hq]
  rw [reconstruct, if_neg hc, h, hp, hq, hdy]

/-- A row that lacks three blocks or more is UNRECOVERABLE (R14). -/
theorem reconstruct_three (h : 2 < r.erasedCount) : reconstruct r = none := by rw [reconstruct, if_pos h]

/-- A row completed with all its data has the P and Q of encoding, supplied or not (R15). -/
theorem Row.complete_eq (hp : ∀ b, r.p = some b → b = (encode data).1) (hq : ∀ b, r.q = some b → b = (encode data).2) :
    r.complete data = { data := data, p := (encode data).1, q := (encode data).2 } := by
  unfold Row.complete
  congr 1
  · cases h : r.p with
    | none => rfl
    | some b => exact hp b h
  · cases h : r.q with
    | none => rfl
    | some b => exact hq b h

/-- The erased blocks of a row that lacks two at most. -/
theorem Row.erased_cases (h : r.erasedCount ≤ 2) :
    r.erasedData = [] ∨ (∃ x p, r.erasedData = [x] ∧ r.p = some p) ∨
      (∃ x q, r.erasedData = [x] ∧ r.p = none ∧ r.q = some q) ∨
      ∃ x y p q, r.erasedData = [x, y] ∧ r.p = some p ∧ r.q = some q := by
  unfold Row.erasedCount at h
  match he : r.erasedData, hp : r.p, hq : r.q with
  | [], _, _ => exact Or.inl rfl
  | [x], some p, _ => exact Or.inr (Or.inl ⟨x, p, rfl, rfl⟩)
  | [x], none, some q => exact Or.inr (Or.inr (Or.inl ⟨x, q, rfl, rfl, rfl⟩))
  | [x, y], some p, some q => exact Or.inr (Or.inr (Or.inr ⟨x, y, p, q, rfl, rfl, rfl⟩))
  | [x], none, none => simp [he, hp, hq] at h
  | [x, y], none, _ => simp [he, hp] at h; omega
  | [x, y], some p, none => simp [he, hp, hq] at h
  | x :: y :: z :: es, _, _ => simp [he] at h; omega

/-- Reconstruction of a row of nine data blocks at most that lacks two blocks at most (R14 to R17). -/
theorem Row.Supplies.reconstruct_eq (h : r.Supplies data) (h9 : data.length ≤ 9)
    (hp : ∀ b, r.p = some b → b = (encode data).1) (hq : ∀ b, r.q = some b → b = (encode data).2)
    (hc : r.erasedCount ≤ 2) : reconstruct r = some { data := data, p := (encode data).1, q := (encode data).2 } := by
  have lt_of_mem : ∀ x ∈ r.erasedData, x < data.length := fun x hx => h.length ▸ (Row.mem_erasedData.1 hx).1
  have complete : ∀ found, r.withData found = data → some (r.complete (r.withData found)) =
      some { data := data, p := (encode data).1, q := (encode data).2 } := fun found hf => by
    rw [hf, Row.complete_eq hp hq]
  obtain he | ⟨x, p, he, hp'⟩ | ⟨x, q, he, hp', hq'⟩ | ⟨x, y, p, q, he, hp', hq'⟩ := Row.erased_cases hc
  · rw [reconstruct_no_data he]
    exact complete _ (h.withData_eq (by simp [he]))
  · have hx := lt_of_mem x (by simp [he])
    rw [reconstruct_one_by_p he hp', hp p hp', h.residueP_one hx he]
    exact complete _ (h.withData_eq (by simp [he]))
  · have hx := lt_of_mem x (by simp [he])
    have hinv : gfMul (inverseCoefficient x) (coefficient x) = 1 := by
      rw [gfMul_comm, coefficient_mul_inverse x (by omega)]
    rw [reconstruct_one_by_q he hp' hq', hq q hq', h.residueQ_one hx he, Block.mul_inverse hinv]
    exact complete _ (h.withData_eq (by simp [he]))
  · have hx := lt_of_mem x (by simp [he])
    have hy := lt_of_mem y (by simp [he])
    have hxy : x < y := by simpa [he] using r.erasedData_ascending
    have hdy := later_from_residues (by omega) (by omega) hxy (data.getD x Block.zero) (data.getD y Block.zero)
    rw [← h.residueP_two hx hy hxy.ne he, ← h.residueQ_two hx hy hxy.ne he, ← hp p hp', ← hq q hq'] at hdy
    rw [reconstruct_two he hp' hq' hdy.symm, hp p hp', h.residueP_two hx hy hxy.ne he, BitVec.xor_assoc,
      BitVec.xor_self, BitVec.xor_zero]
    exact complete _ (h.withData_eq (by simp [he, hxy.ne]))

/-- Settles O6: the residues of a row are the sums over its erased blocks alone, and R15 to R17 solve them. -/
theorem reconstructionRecoversTwo : Obligations.ReconstructionRecoversTwo :=
  ⟨fun _ _ _ h9 hlen hheld hp hq hc => Row.Supplies.reconstruct_eq ⟨hlen, hheld⟩ h9 hp hq hc,
    fun _ h => reconstruct_three h⟩

end Sys2Proof.Machine
end

section
/-! SUPPORT. Availability and erasures (spec/02, R9; spec/01, R10; spec/07, R119, R120; O8). -/

namespace Sys2Proof.Machine

/-! ## Coverage (R119, R120) -/

/-- Of the pass positions of a target's range, the one of a stripe is the one that R119 gives. -/
theorem passPosition_unique {stripes stripe : Nat} (h : stripe < stripes) (start k : Nat) :
    (start ≤ k ∧ k < start + stripes ∧ k % stripes = stripe) ↔ k = passPositionOf stripes start stripe := by
  have hr : start % stripes < stripes := Nat.mod_lt _ (by omega)
  have offset : (stripe + stripes - start % stripes) % stripes =
      if start % stripes ≤ stripe then stripe - start % stripes else stripe + stripes - start % stripes := by
    split
    · rw [show stripe + stripes - start % stripes = stripe - start % stripes + stripes by omega, Nat.add_mod_right,
        Nat.mod_eq_of_lt (by omega)]
    · exact Nat.mod_eq_of_lt (by omega)
  have shifted : ∀ t < stripes, (start + t) % stripes = stripe ↔
      t = (stripe + stripes - start % stripes) % stripes := by
    intro t ht
    rw [Nat.add_mod_eq_ite, Nat.mod_eq_of_lt ht, offset]
    split <;> split <;> omega
  constructor
  · rintro ⟨hlo, hhi, hmod⟩
    obtain ⟨t, rfl⟩ := Nat.exists_eq_add_of_le hlo
    rw [(shifted t (by omega)).1 hmod, passPositionOf]
  · rintro rfl
    have ht : (stripe + stripes - start % stripes) % stripes < stripes := Nat.mod_lt _ (by omega)
    exact ⟨Nat.le_add_right _ _, Nat.add_lt_add_left ht _, (shifted _ ht).2 rfl⟩

/-- A stripe is covered for an ACTIVE target once its pass position has passed the frontier or has a COMPLETE job. -/
theorem PassRecord.covers_iff {stripes stripe : Nat} (h : stripe < stripes) (p : PassRecord) (t : Target) :
    p.covers stripes t stripe = true ↔ t.state = .active ∧
      ∃ k, t.start ≤ k ∧ k < t.start + stripes ∧ k % stripes = stripe ∧
        (k < p.f ∨ ∃ j ∈ p.window, j.k = k ∧ j.state = .complete) := by
  have hk : ∀ P : Nat → Prop, (∃ k, t.start ≤ k ∧ k < t.start + stripes ∧ k % stripes = stripe ∧ P k) ↔
      P (passPositionOf stripes t.start stripe) := fun P => by
    simp only [← and_assoc]
    simp only [and_assoc, passPosition_unique h, exists_eq_left]
  rw [hk]
  simp [PassRecord.covers]

/-! ## Availability (R9) -/

theorem ArrayTable.position_of_definition {t : ArrayTable} {d : ArrayDef} (h : t.definition = some d) (x : Nat) :
    t.position x = d.positions[x]? := by
  simp only [ArrayTable.position, h]

theorem State.available_absent {s : State} {x : Nat} (h : s.table.position x = none) (stripe : Nat) :
    s.available x stripe = false := by
  simp only [State.available, h]

theorem State.available_inService {s : State} {x : Nat} {p : PosRec} (h : s.table.position x = some p)
    (hp : p.state = .inService) (stripe : Nat) : s.available x stripe = true := by
  simp only [State.available, h, hp]

theorem State.available_failed {s : State} {x : Nat} {p : PosRec} (h : s.table.position x = some p)
    (hp : p.state = .failed) (stripe : Nat) : s.available x stripe = false := by
  simp only [State.available, h, hp]

theorem State.available_rebuilding {s : State} {x : Nat} {p : PosRec} (h : s.table.position x = some p)
    (hp : p.state = .rebuilding) (stripe : Nat) : s.available x stripe = s.covered x stripe := by
  simp only [State.available, h, hp]

/-- A stripe is covered for a position by an ACTIVE target of it. -/
theorem State.covered_iff {s : State} {d : ArrayDef} (hd : s.table.definition = some d) {stripe : Nat}
    (h : stripe < d.geom.s) (x : Nat) : s.covered x stripe = true ↔
      ∃ t ∈ s.rbc.targets, t.position = x ∧ t.state = .active ∧
        ∃ k, t.start ≤ k ∧ k < t.start + d.geom.s ∧ k % d.geom.s = stripe ∧
          (k < s.rbc.f ∨ ∃ j ∈ s.rbc.window, j.k = k ∧ j.state = .complete) := by
  simp only [State.covered, hd, List.any_eq_true, Bool.and_eq_true, beq_iff_eq, PassRecord.covers_iff h]

/-! ## What the tries for a block have come to (R10) -/

theorem cellAt_cons_same (o : BlockOutcome) (cells : List Cell) (x row : Nat) :
    cellAt ({ position := x, row := row, outcome := o } :: cells) x row =
      some (((cellAt cells x row).map o.join).getD o) := by
  simp [cellAt]

theorem cellAt_cons_other {c : Cell} {x row : Nat} (h : ¬(c.position = x ∧ c.row = row)) (cells : List Cell) :
    cellAt (c :: cells) x row = cellAt cells x row := by
  rw [cellAt, if_neg h]

theorem causeAt_cons_same (e : ErasureCause) (cells : List Cell) (x row : Nat) :
    causeAt ({ position := x, row := row, outcome := .erased e } :: cells) x row =
      some (((causeAt cells x row).map e.first).getD e) := by
  simp [causeAt]

theorem causeAt_cons_good (b : Block) (cells : List Cell) (p r x row : Nat) :
    causeAt ({ position := p, row := r, outcome := .good b } :: cells) x row = causeAt cells x row :=
  rfl

theorem causeAt_cons_other {c : Cell} {x row : Nat} (h : ¬(c.position = x ∧ c.row = row)) (cells : List Cell) :
    causeAt (c :: cells) x row = causeAt cells x row := by
  obtain ⟨p, r, o⟩ := c
  cases o with
  | good b => rfl
  | erased e => simp [causeAt, h]

/-- A cell of another block is none of a block's. -/
theorem mem_cons_other {c : Cell} {x row : Nat} (h : ¬(c.position = x ∧ c.row = row)) (o : BlockOutcome)
    (cells : List Cell) : { position := x, row := row, outcome := o } ∈ c :: cells ↔
      { position := x, row := row, outcome := o } ∈ cells := by
  rw [List.mem_cons, or_iff_right]
  rintro rfl
  exact h ⟨rfl, rfl⟩

/-- A cell is of a block, or it is not. -/
theorem Cell.same_or_other (c : Cell) (x row : Nat) :
    (∃ o, c = { position := x, row := row, outcome := o }) ∨ ¬(c.position = x ∧ c.row = row) := by
  by_cases h : c.position = x ∧ c.row = row
  · obtain ⟨rfl, rfl⟩ := h
    exact Or.inl ⟨c.outcome, rfl⟩
  · exact Or.inr h

theorem cellAt_eq_none_iff (cells : List Cell) (x row : Nat) :
    cellAt cells x row = none ↔ ∀ o, { position := x, row := row, outcome := o } ∉ cells := by
  induction cells with
  | nil => simp [cellAt]
  | cons c cells ih =>
    obtain ⟨o, rfl⟩ | hc := c.same_or_other x row
    · rw [cellAt_cons_same]
      exact iff_of_false (by simp) fun h => h o List.mem_cons_self
    · simp only [cellAt_cons_other hc, mem_cons_other hc, ih]

/-- The contents of a block that was obtained are those of one try. -/
theorem cellAt_good_mem {cells : List Cell} {x row : Nat} {b : Block} (h : cellAt cells x row = some (.good b)) :
    { position := x, row := row, outcome := .good b } ∈ cells := by
  induction cells with
  | nil => simp [cellAt] at h
  | cons c cells ih =>
    obtain ⟨o, rfl⟩ | hc := c.same_or_other x row
    · rw [cellAt_cons_same] at h
      cases hrest : cellAt cells x row with
      | none =>
        obtain rfl : o = .good b := by simpa [hrest] using h
        exact List.mem_cons_self
      | some o' =>
        have hjoin : o.join o' = .good b := by simpa [hrest] using h
        cases o with
        | good b' => exact hjoin ▸ List.mem_cons_self
        | erased e =>
          cases o' with
          | good b' => exact List.mem_cons_of_mem _ (ih (hrest.trans (congrArg some hjoin)))
          | erased e' => cases hjoin
    · exact (mem_cons_other hc _ _).2 (ih (by rwa [cellAt_cons_other hc] at h))

/-- A block is held once a try of it was good. -/
theorem cellAt_good_iff_mem (cells : List Cell) (x row : Nat) : (∃ b, cellAt cells x row = some (.good b)) ↔
    ∃ b, { position := x, row := row, outcome := .good b } ∈ cells := by
  refine ⟨fun ⟨b, hb⟩ => ⟨b, cellAt_good_mem hb⟩, fun ⟨b, hb⟩ => ?_⟩
  exact (cellAt_good_iff cells x row).2 ⟨_, hb, rfl, rfl, rfl⟩

theorem causeAt_eq_none_iff (cells : List Cell) (x row : Nat) :
    causeAt cells x row = none ↔ ∀ e, { position := x, row := row, outcome := .erased e } ∉ cells := by
  induction cells with
  | nil => simp [causeAt]
  | cons c cells ih =>
    obtain ⟨o, rfl⟩ | hc := c.same_or_other x row
    · cases o with
      | good b => simp [causeAt_cons_good, ih]
      | erased e =>
        rw [causeAt_cons_same]
        exact iff_of_false (by simp) fun h => h e List.mem_cons_self
    · simp only [causeAt_cons_other hc, mem_cons_other hc, ih]

theorem ErasureCause.first_eq (a b : ErasureCause) : a.first b = a ∨ a.first b = b := ite_eq_or_eq ..

theorem ErasureCause.rank_first (a b : ErasureCause) : (a.first b).rank = min a.rank b.rank := by
  unfold ErasureCause.first
  split <;> omega

theorem ErasureCause.idxOf_causeOrder (c : ErasureCause) : causeOrder.idxOf c = c.rank := by cases c <;> rfl

/-- A cause that a try of a block ended with, and none that stands before it in Table 1-8. -/
def FirstCause (cells : List Cell) (x row : Nat) (c : ErasureCause) : Prop :=
  { position := x, row := row, outcome := .erased c } ∈ cells ∧
    ∀ e, { position := x, row := row, outcome := .erased e } ∈ cells → c.rank ≤ e.rank

theorem causeAt_firstCause {cells : List Cell} {x row : Nat} {c : ErasureCause} (h : causeAt cells x row = some c) :
    FirstCause cells x row c := by
  unfold FirstCause
  induction cells generalizing c with
  | nil => simp [causeAt] at h
  | cons d cells ih =>
    obtain ⟨o, rfl⟩ | hd := d.same_or_other x row
    · cases o with
      | good b => simpa using ih h
      | erased a =>
        rw [causeAt_cons_same] at h
        simp only [List.mem_cons, Cell.mk.injEq, BlockOutcome.erased.injEq, true_and]
        cases hrest : causeAt cells x row with
        | none =>
          obtain rfl : a = c := by simpa [hrest] using h
          have hno := (causeAt_eq_none_iff cells x row).1 hrest
          exact ⟨Or.inl rfl, fun e he => (he.resolve_right (hno e)) ▸ le_rfl⟩
        | some b =>
          obtain rfl : a.first b = c := by simpa [hrest] using h
          obtain ⟨hmem, hle⟩ := ih hrest
          have hfirst : a.first b = a ∨ { position := x, row := row, outcome := .erased (a.first b) } ∈ cells :=
            (a.first_eq b).imp id fun hb => by rwa [hb]
          refine ⟨hfirst, fun e he => ?_⟩
          rw [ErasureCause.rank_first]
          exact he.elim (fun he => he ▸ min_le_left _ _) fun he => (min_le_right _ _).trans (hle e he)
    · simp only [mem_cons_other hd]
      exact ih (by rwa [causeAt_cons_other hd] at h)

/-- A block that no try obtained is an erasure by the first of its causes. -/
theorem causeAt_of_cellAt_erased {cells : List Cell} {x row : Nat} {c : ErasureCause}
    (h : cellAt cells x row = some (.erased c)) : causeAt cells x row = some c := by
  induction cells generalizing c with
  | nil => simp [cellAt] at h
  | cons d cells ih =>
    obtain ⟨o, rfl⟩ | hd := d.same_or_other x row
    · rw [cellAt_cons_same] at h
      cases o with
      | good b => cases hrest : cellAt cells x row <;> simp [hrest, BlockOutcome.join] at h
      | erased a =>
        rw [causeAt_cons_same]
        cases hrest : cellAt cells x row with
        | none =>
          have hnone : causeAt cells x row = none :=
            (causeAt_eq_none_iff _ _ _).2 fun e => (cellAt_eq_none_iff _ _ _).1 hrest _
          simpa [hrest, hnone] using h
        | some o' =>
          cases o' with
          | good b => simp [hrest, BlockOutcome.join] at h
          | erased b => simpa [hrest, ih hrest, BlockOutcome.join] using h
    · rw [causeAt_cons_other hd]
      exact ih (by rwa [cellAt_cons_other hd] at h)

/-! ## Supplied blocks and erasures (R10) -/

section
variable (s : State) (g : Geometry) (stripe x row : Nat) (cells : List Cell)

theorem State.erasure_unsought (h : cellAt cells x row = none) :
    s.erasure g stripe cells x row = some (if s.available x stripe = true then .notRead else .unavailable) := by
  simp only [State.erasure, h]

theorem State.erasure_erased {c : ErasureCause} (h : cellAt cells x row = some (.erased c)) :
    s.erasure g stripe cells x row = some c := by
  simp only [State.erasure, h]

theorem State.erasure_listed {b : Block} (h : cellAt cells x row = some (.good b))
    (hl : s.lel.listed x (g.memberBlock stripe row) = true) :
    s.erasure g stripe cells x row = some ((causeAt cells x row).getD .listed) := by
  simp only [State.erasure, h, hl, if_true]

theorem State.erasure_supplied {b : Block} (h : cellAt cells x row = some (.good b))
    (hl : s.lel.listed x (g.memberBlock stripe row) = false) : s.erasure g stripe cells x row = none := by
  simp [State.erasure, h, hl]

theorem State.supplied_good {b : Block} (h : cellAt cells x row = some (.good b))
    (hl : s.lel.listed x (g.memberBlock stripe row) = false) : s.supplied g stripe cells x row = some b := by
  simp [State.supplied, h, hl]

/-- A block that is supplied was obtained and is not listed. -/
theorem State.supplied_eq_none (h : (∀ b, cellAt cells x row ≠ some (.good b)) ∨
    s.lel.listed x (g.memberBlock stripe row) = true) : s.supplied g stripe cells x row = none := by
  unfold State.supplied
  split
  · next b hb => rw [if_pos (h.resolve_left fun hn => hn b hb)]
  · rfl

/-- The erasure set of a row names each of its erased blocks with its cause. -/
theorem State.mem_erasureSet (cause : ErasureCause) : (x, cause) ∈ (s.erasureSet g stripe cells row).erased ↔
    x < g.w ∧ s.erasure g stripe cells x row = some cause := by
  simp [State.erasureSet]

/-- A block that is not supplied is an erasure: why, by what its tries came to (R10, Table 1-8; log 25). -/
theorem State.erasure_cases
    (h : (∀ b, cellAt cells x row ≠ some (.good b)) ∨ s.lel.listed x (g.memberBlock stripe row) = true) :
    ∃ cause, s.erasure g stripe cells x row = some cause ∧
      ((cellAt cells x row = none ∧ cause = if s.available x stripe = true then .notRead else .unavailable) ∨
        (causeAt cells x row = some cause) ∨
        ((∃ b, cellAt cells x row = some (.good b)) ∧ causeAt cells x row = none ∧ cause = .listed)) := by
  cases hcell : cellAt cells x row with
  | none => exact ⟨_, s.erasure_unsought g stripe x row cells hcell, Or.inl ⟨rfl, rfl⟩⟩
  | some o =>
    cases o with
    | erased c =>
      exact ⟨c, s.erasure_erased g stripe x row cells hcell, Or.inr (Or.inl (causeAt_of_cellAt_erased hcell))⟩
    | good b =>
      have hl := h.resolve_left fun hn => hn b hcell
      refine ⟨_, s.erasure_listed g stripe x row cells hcell hl, Or.inr ?_⟩
      cases hcause : causeAt cells x row with
      | none => exact Or.inr ⟨⟨b, rfl⟩, rfl, rfl⟩
      | some e => exact Or.inl rfl

end

/-- Settles O8: a stripe has one pass position in a target's range; the outcome and the cause of a block are read off
its cells by induction. -/
theorem availabilityAndErasures : Obligations.AvailabilityAndErasures := by
  refine ⟨fun s d x hd => ?_, fun s g stripe x row cells listed obtained hl ho => ?_⟩
  · rw [← ArrayTable.position_of_definition hd]
    refine ⟨State.available_absent, fun p hp => ⟨State.available_inService hp, State.available_failed hp,
      fun hr stripe hs => ?_⟩⟩
    rw [State.available_rebuilding hp hr, State.covered_iff hd hs]
  · rw [← cellAt_good_iff_mem] at ho
    refine ⟨fun hobt hnl => ?_, fun h => ?_, State.mem_erasureSet s g stripe x row cells⟩
    · obtain ⟨b, hb⟩ := ho.1 hobt
      have hfree := Bool.eq_false_iff.2 fun h => hnl (hl.2 h)
      exact ⟨s.erasure_supplied g stripe x row cells hb hfree, b, s.supplied_good g stripe x row cells hb hfree,
        cellAt_good_mem hb⟩
    · have hlost : (∀ b, cellAt cells x row ≠ some (.good b)) ∨ s.lel.listed x (g.memberBlock stripe row) = true :=
        h.imp (fun hn b hb => hn (ho.2 ⟨b, hb⟩)) hl.1
      obtain ⟨cause, hcause, hwhy⟩ := s.erasure_cases g stripe x row cells hlost
      refine ⟨s.supplied_eq_none g stripe x row cells hlost, cause, hcause, ?_⟩
      rw [← cellAt_eq_none_iff, ← causeAt_eq_none_iff]
      obtain ⟨hnone, hc⟩ | hc | ⟨⟨b, hb⟩, hnone, hc⟩ := hwhy
      · have hun := (cellAt_eq_none_iff _ _ _).1 hnone
        exact ⟨fun _ => hc, fun hobt => absurd (ho.1 hobt) (by simp [hnone]), fun ⟨e, he⟩ => absurd he (hun _)⟩
      · obtain ⟨hmem, hle⟩ := causeAt_firstCause hc
        refine ⟨fun hun => absurd hmem ((cellAt_eq_none_iff _ _ _).1 hun _),
          fun _ hnone => (nomatch hnone.symm.trans hc), fun _ => ⟨hmem, fun e he => ?_⟩⟩
        rw [ErasureCause.idxOf_causeOrder, ErasureCause.idxOf_causeOrder]
        exact hle e he
      · have hno := (causeAt_eq_none_iff _ _ _).1 hnone
        exact ⟨fun hun => (nomatch hun.symm.trans hb), fun _ _ => hc, fun ⟨e, he⟩ => absurd he (hno e)⟩

end Sys2Proof.Machine
end

section
/-! SUPPORT. Stripe geometry (spec/01, R1 to R7; O4): the positions of a stripe and their roles, the two maps between
array blocks and member blocks, and the segments of an extent. -/

namespace Sys2Proof.Machine

/-! ## The positions of a stripe (R3) -/

/-- A number below twice the modulus wraps once at most. -/
theorem mod_wrap {a w : Nat} (h : a < 2 * w) : a % w = if a < w then a else a - w := by
  split
  · exact Nat.mod_eq_of_lt ‹_›
  · rw [Nat.mod_eq_sub_mod (by omega), Nat.mod_eq_of_lt (by omega)]

/-- A position without data holds P or Q. -/
theorem Geometry.role_not_data_iff (g : Geometry) (s x : Nat) :
    (∀ d, g.role s x ≠ .data d) ↔ x = g.posP s ∨ x = g.posQ s := by
  unfold Geometry.role
  split
  · simp_all
  · split <;> simp_all

section
variable {g : Geometry} (hw : 3 ≤ g.w) (s : Nat)
include hw

theorem Geometry.posP_lt : g.posP s < g.w := by
  unfold Geometry.posP
  omega

theorem Geometry.posQ_eq : g.posQ s = if g.posP s + 1 < g.w then g.posP s + 1 else 0 := by
  have hP := Geometry.posP_lt hw s
  rw [Geometry.posQ, mod_wrap (by omega)]
  split <;> omega

theorem Geometry.posQ_lt : g.posQ s < g.w := Nat.mod_lt _ (by omega)

theorem Geometry.posQ_ne_posP : g.posQ s ≠ g.posP s := by
  have hP := Geometry.posP_lt hw s
  rw [Geometry.posQ_eq hw]
  split <;> omega

theorem Geometry.posData_lt (d : Nat) : g.posData s d < g.w := Nat.mod_lt _ (by omega)

theorem Geometry.posData_eq {d : Nat} (hd : d < g.d) :
    g.posData s d = if g.posQ s + 1 + d < g.w then g.posQ s + 1 + d else g.posQ s + 1 + d - g.w := by
  have hQ := Geometry.posQ_lt hw s
  unfold Geometry.d at hd
  rw [Geometry.posData, mod_wrap (by omega)]

/-- The data index that the role of a position counts from Q (R5, step 5). -/
theorem Geometry.dataRole_eq {x : Nat} (hx : x < g.w) : (x + 2 * g.w - g.posQ s - 1) % g.w =
    if g.posQ s < x then x - g.posQ s - 1 else x + g.w - g.posQ s - 1 := by
  have hQ := Geometry.posQ_lt hw s
  rw [show x + 2 * g.w - g.posQ s - 1 = x + g.w - g.posQ s - 1 + g.w by omega, Nat.add_mod_right, mod_wrap (by omega)]
  split <;> split <;> omega

/-- A position holds a data index where R3 puts that index. -/
theorem Geometry.role_eq_data_iff {x : Nat} (hx : x < g.w) (d : Nat) :
    g.role s x = .data d ↔ d < g.d ∧ g.posData s d = x := by
  have hP := Geometry.posP_lt hw s
  have hQ := Geometry.posQ_eq hw s
  unfold Geometry.role
  constructor
  · intro h
    split at h
    · cases h
    · split at h
      · cases h
      · obtain rfl : _ = d := Role.data.inj h
        rw [Geometry.dataRole_eq hw s hx]
        have hd : (if g.posQ s < x then x - g.posQ s - 1 else x + g.w - g.posQ s - 1) < g.d := by
          unfold Geometry.d
          split at hQ <;> split <;> omega
        refine ⟨hd, ?_⟩
        rw [Geometry.posData_eq hw s hd]
        have := Geometry.posQ_lt hw s
        split <;> split <;> omega
  · rintro ⟨hd, rfl⟩
    have hx := Geometry.posData_eq hw s hd
    have hrole := Geometry.dataRole_eq hw s (Geometry.posData_lt hw s d)
    unfold Geometry.d at hd
    rw [if_neg, if_neg, hrole]
    · congr 1
      split at hx <;> split <;> omega
    · split at hx <;> omega
    · split at hQ <;> split at hx <;> omega

end

/-! ## Array blocks and member blocks (R2, R4, R5) -/

/-- What R1 asks of a geometry for its blocks to have places. -/
theorem Geometry.pos_of_valid {g : Geometry} (h : g.valid = true) : 3 ≤ g.w ∧ 0 < g.k ∧ 0 < g.d := by
  simp only [Geometry.valid, Bool.and_eq_true, decide_eq_true_eq, List.contains_iff_mem, List.mem_cons,
    List.not_mem_nil, or_false] at h
  obtain ⟨⟨⟨⟨⟨hw, -⟩, hk⟩, -⟩, -⟩, -⟩ := h
  exact ⟨by omega, by omega, by unfold Geometry.d; omega⟩

/-- A number split by a product of two places: the digits are the ones it was made of. -/
theorem digits_unique {k n q d r : Nat} (hd : d < n) (hr : r < k) :
    (q * k * n + d * k + r) / (k * n) = q ∧ (q * k * n + d * k + r) % (k * n) = d * k + r ∧
      (d * k + r) / k = d ∧ (d * k + r) % k = r := by
  have hk : 0 < k := by omega
  have hlow : d * k + r < k * n := by
    calc d * k + r < (d + 1) * k := by rw [Nat.succ_mul]; omega
      _ ≤ n * k := Nat.mul_le_mul_right k hd
      _ = k * n := Nat.mul_comm n k
  have hhigh := (Nat.div_mod_unique (a := q * k * n + d * k + r) (d := q) (c := d * k + r) (by omega : 0 < k * n)).2
    ⟨by ring, hlow⟩
  have hin := (Nat.div_mod_unique (a := d * k + r) (d := d) (c := r) hk).2 ⟨by ring, hr⟩
  exact ⟨hhigh.1, hhigh.2, hin.1, hin.2⟩

section
variable {g : Geometry} {q d r l m : Nat}

theorem Geometry.stripeOf_arrayBlock (hd : d < g.d) (hr : r < g.k) : g.stripeOf (g.arrayBlock q d r) = q :=
  (digits_unique hd hr).1

theorem Geometry.dataIndexOf_arrayBlock (hd : d < g.d) (hr : r < g.k) : g.dataIndexOf (g.arrayBlock q d r) = d := by
  obtain ⟨-, hlow, hin, -⟩ := digits_unique (q := q) hd hr
  rw [Geometry.dataIndexOf, Geometry.arrayBlock, Geometry.stripeBlocks, hlow, hin]

theorem Geometry.rowOf_arrayBlock (hd : d < g.d) (hr : r < g.k) : g.rowOf (g.arrayBlock q d r) = r := by
  obtain ⟨-, hlow, -, hin⟩ := digits_unique (q := q) hd hr
  rw [Geometry.rowOf, Geometry.arrayBlock, Geometry.stripeBlocks, hlow, hin]

/-- An array block is that of its stripe, data index and row. -/
theorem Geometry.arrayBlock_eq (g : Geometry) (l : Nat) :
    g.arrayBlock (g.stripeOf l) (g.dataIndexOf l) (g.rowOf l) = l := by
  have hhigh := Nat.div_add_mod l g.stripeBlocks
  have hlow := Nat.div_add_mod (l % g.stripeBlocks) g.k
  rw [Geometry.arrayBlock, Geometry.stripeOf, Geometry.dataIndexOf, Geometry.rowOf, Nat.add_assoc,
    Nat.mul_comm _ g.k, Nat.mul_comm _ g.k, hlow]
  calc g.k * (l / g.stripeBlocks) * g.d + l % g.stripeBlocks
      = g.stripeBlocks * (l / g.stripeBlocks) + l % g.stripeBlocks := by unfold Geometry.stripeBlocks; ring
    _ = l := hhigh

theorem Geometry.dataIndexOf_lt (hk : 0 < g.k) (hd : 0 < g.d) : g.dataIndexOf l < g.d :=
  Nat.div_lt_of_lt_mul (Nat.mod_lt _ (Nat.mul_pos hk hd))

theorem Geometry.rowOf_lt (hk : 0 < g.k) : g.rowOf l < g.k := Nat.mod_lt _ hk

theorem Geometry.stripeOf_lt (hl : l < g.capacity) : g.stripeOf l < g.s :=
  Nat.div_lt_of_lt_mul (by rwa [Geometry.capacity, Nat.mul_assoc, Nat.mul_comm] at hl)

theorem Geometry.arrayBlock_lt (hq : q < g.s) (hd : d < g.d) (hr : r < g.k) : g.arrayBlock q d r < g.capacity := by
  by_contra hge
  have hdiv := Nat.div_le_div_right (c := g.k * g.d) (Nat.le_of_not_lt hge)
  rw [Geometry.arrayBlock, (digits_unique hd hr).1, Geometry.capacity, Nat.mul_assoc,
    Nat.mul_div_cancel _ (Nat.mul_pos (by omega) (by omega))] at hdiv
  omega

theorem Geometry.memberStripe_memberBlock (hr : r < g.k) : g.memberStripe (g.memberBlock q r) = q := by
  rw [Geometry.memberStripe, Geometry.memberBlock, Nat.add_assoc, Nat.add_sub_cancel_left, Nat.mul_comm,
    Nat.mul_add_div (by omega), Nat.div_eq_of_lt hr, Nat.add_zero]

theorem Geometry.memberRow_memberBlock (hr : r < g.k) : g.memberRow (g.memberBlock q r) = r := by
  rw [Geometry.memberRow, Geometry.memberBlock, Nat.add_assoc, Nat.add_sub_cancel_left, Nat.mul_comm,
    Nat.mul_add_mod, Nat.mod_eq_of_lt hr]

theorem Geometry.memberBlock_eq (hm : g.b0 ≤ m) : g.memberBlock (g.memberStripe m) (g.memberRow m) = m := by
  have h := Nat.div_add_mod (m - g.b0) g.k
  rw [Geometry.memberBlock, Geometry.memberStripe, Geometry.memberRow, Nat.mul_comm, Nat.add_assoc, h,
    Nat.add_sub_cancel' hm]

theorem Geometry.inMember_iff : g.inMember m = true ↔ g.b0 ≤ m ∧ m < g.b0 + g.s * g.k := by
  rw [Geometry.inMember, Bool.and_eq_true, decide_eq_true_eq, decide_eq_true_eq, Geometry.memberEnd]

theorem Geometry.memberStripe_lt (hm : g.inMember m = true) : g.memberStripe m < g.s := by
  obtain ⟨hlo, hhi⟩ := Geometry.inMember_iff.1 hm
  exact Nat.div_lt_of_lt_mul (by rw [Nat.mul_comm]; omega)

theorem Geometry.inMember_memberBlock (hq : q < g.s) (hr : r < g.k) : g.inMember (g.memberBlock q r) = true := by
  have hmul : (q + 1) * g.k ≤ g.s * g.k := Nat.mul_le_mul_right _ hq
  rw [Nat.succ_mul] at hmul
  rw [Geometry.inMember_iff, Geometry.memberBlock]
  omega

/-- What a member block of a position holds of the array (R5). -/
theorem Geometry.memberToArray_eq_some_iff (hw : 3 ≤ g.w) {x : Nat} (hx : x < g.w) : g.memberToArray x m = some l ↔
    g.inMember m = true ∧ ∃ d < g.d, g.posData (g.memberStripe m) d = x ∧
      g.arrayBlock (g.memberStripe m) d (g.memberRow m) = l := by
  have hrole := Geometry.role_eq_data_iff hw (g.memberStripe m) hx
  unfold Geometry.memberToArray
  split
  · next hm =>
    split
    · next d hd =>
      obtain ⟨hlt, hpos⟩ := (hrole d).1 hd
      refine ⟨fun h => ⟨hm, d, hlt, hpos, Option.some.inj h⟩, fun ⟨_, d', hlt', hpos', hl⟩ => ?_⟩
      obtain rfl : d = d' := Role.data.inj (hd.symm.trans ((hrole d').2 ⟨hlt', hpos'⟩))
      rw [hl]
    · next hnot => exact iff_of_false (by simp) fun ⟨_, d, hlt, hpos, _⟩ => hnot d ((hrole d).2 ⟨hlt, hpos⟩)
  · next hm => exact iff_of_false (by simp) fun h => hm h.1

/-- A member block has no place in the array outside the member data range, or where it is one of P or Q (R5). -/
theorem Geometry.memberToArray_eq_none_iff (x : Nat) : g.memberToArray x m = none ↔
    m < g.b0 ∨ g.b0 + g.s * g.k ≤ m ∨ x = g.posP (g.memberStripe m) ∨ x = g.posQ (g.memberStripe m) := by
  rw [← Geometry.role_not_data_iff]
  unfold Geometry.memberToArray
  split
  · next hm =>
    obtain ⟨hlo, hhi⟩ := Geometry.inMember_iff.1 hm
    rw [or_iff_right (by omega), or_iff_right (by omega)]
    split
    · next d hd => exact iff_of_false (by simp) fun hnot => hnot d hd
    · next hnot => exact iff_of_true rfl hnot
  · next hm =>
    rw [Geometry.inMember_iff] at hm
    exact iff_of_true rfl (by omega)

end

/-! ## Segments (R7) -/

section
variable {g : Geometry} {first count i : Nat}

/-- A segment after the first begins with its stripe. -/
theorem Geometry.segFirst_succ (g : Geometry) (first i : Nat) :
    g.segFirst first (i + 1) = (g.stripeOf first + i + 1) * g.stripeBlocks :=
  if_neg (Nat.succ_ne_zero i)

/-- A segment begins in its stripe, not before it. -/
theorem Geometry.stripe_le_segFirst (g : Geometry) (first i : Nat) :
    (g.stripeOf first + i) * g.stripeBlocks ≤ g.segFirst first i := by
  cases i with
  | zero => exact Nat.div_mul_le_self first g.stripeBlocks
  | succ i => exact (g.segFirst_succ first i).ge

/-- A segment begins before the next one does. -/
theorem Geometry.segFirst_lt_stripe (hb : 0 < g.stripeBlocks) (first i : Nat) :
    g.segFirst first i < g.segFirst first (i + 1) := by
  rw [Geometry.segFirst_succ]
  cases i with
  | zero => exact Nat.lt_mul_of_div_lt (Nat.lt_succ_self _) hb
  | succ i =>
    rw [Geometry.segFirst_succ]
    exact Nat.mul_lt_mul_of_pos_right (by omega) hb

theorem Geometry.first_le_segFirst (hb : 0 < g.stripeBlocks) (first i : Nat) : first ≤ g.segFirst first i := by
  induction i with
  | zero => exact le_rfl
  | succ i ih => exact ih.trans (Geometry.segFirst_lt_stripe hb first i).le

/-- The segments of an extent are those that begin before its end. -/
theorem Geometry.segFirst_lt_end_iff (hb : 0 < g.stripeBlocks) (hc : 1 ≤ count) :
    g.segFirst first i < first + count ↔ i < g.segments first count := by
  unfold Geometry.segments
  cases i with
  | zero => exact iff_of_true (by rw [Geometry.segFirst, if_pos rfl]; omega) (Nat.succ_pos _)
  | succ i =>
    have hle : g.stripeOf first ≤ g.stripeOf (first + count - 1) := Nat.div_le_div_right (by omega)
    have hdiv : g.stripeOf first + i + 1 ≤ g.stripeOf (first + count - 1) ↔
        (g.stripeOf first + i + 1) * g.stripeBlocks ≤ first + count - 1 := Nat.le_div_iff_mul_le hb
    rw [Geometry.segFirst_succ]
    omega

theorem Geometry.segCount_eq (g : Geometry) (first count i : Nat) : g.segCount first count i =
    min (first + count) (g.segFirst first (i + 1)) - g.segFirst first i := by
  rw [Geometry.segCount, Geometry.segFirst_succ]

/-- A block of a segment lies in the segment's stripe (R7). -/
theorem Geometry.stripeOf_segBlock {j : Nat} (hj : j < g.segCount first count i) :
    g.stripeOf (g.segFirst first i + j) = g.stripeOf first + i := by
  have hlo := g.stripe_le_segFirst first i
  rw [Geometry.segCount_eq] at hj
  have hhi : g.segFirst first i + j < g.segFirst first (i + 1) := by omega
  rw [Geometry.segFirst_succ] at hhi
  refine Nat.div_eq_of_lt_le (by omega) hhi

/-- The blocks of the first n segments of an extent are its blocks up to where segment n begins. -/
theorem Geometry.segments_blocks (hb : 0 < g.stripeBlocks) (hc : 1 ≤ count) (n : Nat)
    (hn : n ≤ g.segments first count) :
    ((List.range n).flatMap fun i => List.range' (g.segFirst first i) (g.segCount first count i)) =
      List.range' first (min (first + count) (g.segFirst first n) - first) := by
  induction n with
  | zero => simp [Geometry.segFirst]
  | succ n ih =>
    have hlt := (Geometry.segFirst_lt_end_iff hb hc).2 hn
    have hnext := Geometry.segFirst_lt_stripe hb first n
    have hfirst := Geometry.first_le_segFirst hb first n
    obtain ⟨done, hdone⟩ := Nat.exists_eq_add_of_le hfirst
    rw [List.range_succ, List.flatMap_append, ih (by omega), List.flatMap_singleton, Geometry.segCount_eq,
      min_eq_right hlt.le, hdone, Nat.add_sub_cancel_left, List.range'_append_1]
    congr 1
    omega

/-- The array blocks of a segment, in order. -/
theorem ExtentReq.blocks_array (r : ExtentReq) (g : Geometry) : (r.blocks g).map (fun b => b.array) =
    List.range' (g.segFirst r.first r.segment) (g.segCount r.first r.count r.segment) := by
  rw [List.range'_eq_map_range, ExtentReq.blocks, List.map_map]
  rfl

theorem ExtentReq.mem_blocks {r : ExtentReq} {g : Geometry} {b : SegBlock} : b ∈ r.blocks g ↔
    ∃ j < g.segCount r.first r.count r.segment, b =
      { index := g.segFirst r.first r.segment + j - r.first, array := g.segFirst r.first r.segment + j,
        row := g.rowOf (g.segFirst r.first r.segment + j),
        position := g.posData (r.stripe g) (g.dataIndexOf (g.segFirst r.first r.segment + j)) } := by
  simp only [ExtentReq.blocks, List.mem_map, List.mem_range, eq_comm (a := b)]

end

/-- From an array block to its member block and back (R2 to R5). -/
theorem Geometry.memberToArray_of_array {g : Geometry} (hg : g.valid = true) {l : Nat} (hl : l < g.capacity) :
    g.memberToArray (g.posData (g.stripeOf l) (g.dataIndexOf l)) (g.memberBlock (g.stripeOf l) (g.rowOf l)) =
      some l := by
  obtain ⟨hw, hk, hd⟩ := Geometry.pos_of_valid hg
  have hrow : g.rowOf l < g.k := Geometry.rowOf_lt hk
  rw [Geometry.memberToArray_eq_some_iff hw (Geometry.posData_lt hw _ _), Geometry.memberStripe_memberBlock hrow,
    Geometry.memberRow_memberBlock hrow]
  exact ⟨Geometry.inMember_memberBlock (Geometry.stripeOf_lt hl) hrow, _, Geometry.dataIndexOf_lt hk hd, rfl,
    g.arrayBlock_eq l⟩

/-- From a member block that holds data to its array block and back (R2 to R5). -/
theorem Geometry.array_of_memberToArray {g : Geometry} (hg : g.valid = true) {x m l : Nat} (hx : x < g.w)
    (h : g.memberToArray x m = some l) : l < g.capacity ∧ g.posData (g.stripeOf l) (g.dataIndexOf l) = x ∧
      g.memberBlock (g.stripeOf l) (g.rowOf l) = m := by
  obtain ⟨hw, hk, -⟩ := Geometry.pos_of_valid hg
  obtain ⟨hm, d, hd, hpos, rfl⟩ := (Geometry.memberToArray_eq_some_iff hw hx).1 h
  have hrow : g.memberRow m < g.k := Nat.mod_lt _ hk
  rw [Geometry.stripeOf_arrayBlock hd hrow, Geometry.dataIndexOf_arrayBlock hd hrow, Geometry.rowOf_arrayBlock hd hrow]
  exact ⟨Geometry.arrayBlock_lt (Geometry.memberStripe_lt hm) hd hrow, hpos,
    Geometry.memberBlock_eq (Geometry.inMember_iff.1 hm).1⟩

/-- The segments of an extent hold its blocks in order (R7). -/
theorem Geometry.segments_hold_extent {g : Geometry} (hb : 0 < g.stripeBlocks) (r : ExtentReq) (hc : 1 ≤ r.count) :
    ((List.range (g.segments r.first r.count)).flatMap fun i =>
      (({ r with segment := i } : ExtentReq).blocks g).map fun b => b.array) =
        (List.range r.count).map fun j => r.first + j := by
  simp only [ExtentReq.blocks_array]
  have hend := (Geometry.segFirst_lt_end_iff (i := g.segments r.first r.count) hb hc).not.2 (lt_irrefl _)
  rw [Geometry.segments_blocks hb hc _ le_rfl, min_eq_left (Nat.le_of_not_lt hend), Nat.add_sub_cancel_left,
    List.range'_eq_map_range]

/-- A segment of an extent holds a block, its first one at its head (R7). -/
theorem Geometry.segment_head {g : Geometry} (hb : 0 < g.stripeBlocks) (r : ExtentReq) (hc : 1 ≤ r.count)
    (hi : r.segment < g.segments r.first r.count) :
    (r.blocks g).head?.map (fun b => b.array) = some (g.segFirst r.first r.segment) := by
  have hlt := (Geometry.segFirst_lt_end_iff hb hc).2 hi
  have hnext := Geometry.segFirst_lt_stripe hb r.first r.segment
  rw [← List.head?_map, ExtentReq.blocks_array, List.head?_range', if_neg]
  rw [Geometry.segCount_eq]
  omega

/-- Each block of a segment lies in the segment's stripe, at its place (R7). -/
theorem ExtentReq.block_place {r : ExtentReq} {g : Geometry} {b : SegBlock} (h : b ∈ r.blocks g) :
    b.index = b.array - r.first ∧ g.stripeOf b.array = r.stripe g ∧ b.row = g.rowOf b.array ∧
      b.position = g.posData (g.stripeOf b.array) (g.dataIndexOf b.array) := by
  obtain ⟨j, hj, rfl⟩ := ExtentReq.mem_blocks.1 h
  have hs := Geometry.stripeOf_segBlock hj
  exact ⟨rfl, hs, rfl, by rw [hs]; rfl⟩

/-- Settles O4: the blocks of an array and of its members are written in the digits of R2, and the segments of an
extent follow one another from stripe to stripe. -/
theorem arrayBlockRoundTrip : Obligations.ArrayBlockRoundTrip := by
  refine ⟨fun g l s d row => ⟨rfl, rfl, rfl, rfl, rfl, rfl, rfl, rfl⟩,
    fun g l hg hl => Geometry.memberToArray_of_array hg hl, fun g r seg hg hc _ hseg => ?_,
    fun g x m hg hx => ⟨fun l => Geometry.array_of_memberToArray hg hx, g.memberToArray_eq_none_iff x⟩⟩
  obtain ⟨-, hk, hd⟩ := Geometry.pos_of_valid hg
  have hb : 0 < g.stripeBlocks := Nat.mul_pos hk hd
  simp only [hseg]
  exact ⟨Geometry.segments_hold_extent hb r hc, fun i hi =>
    ⟨Geometry.segment_head hb { r with segment := i } hc hi, rfl, fun b => ExtentReq.block_place⟩⟩

end Sys2Proof.Machine
end

section
/-! SUPPORT. The records of the Array Table (spec/02, R20 to R23): the record of a position after a write to it, the
channels that members and spares stand on, and the fields that the shared operations on positions leave. -/

namespace Sys2Proof

/-- A table's entries in order. -/
theorem Vec.toList_eq_map_get {α : Type} {n : Nat} (v : Vec α n) : v.toList = (List.finRange n).map v.get :=
  List.ext_getElem (by simp [v.length_eq]) fun i h _ => by simp [Vec.get]

end Sys2Proof

namespace Sys2Proof.Machine

variable {t : ArrayTable} {x y : Nat} {p : PosRec} {c : Chan}

/-! ## One position -/

/-- A record that is there is replaced, -/
theorem ArrayTable.position_setPosition_same (h : t.position x = some p) (q : PosRec) :
    (t.setPosition x q).position x = some q := by
  unfold ArrayTable.position at h
  split at h
  · cases h
  · next d hd =>
    simp only [ArrayTable.setPosition, hd, ArrayTable.position]
    exact List.getElem?_set_self (List.getElem?_eq_some_iff.1 h).1

/-- and no other. -/
theorem ArrayTable.position_setPosition_other (h : y ≠ x) (q : PosRec) :
    (t.setPosition x q).position y = t.position y := by
  cases hd : t.definition with
  | none => simp only [ArrayTable.setPosition, hd]
  | some d => simp only [ArrayTable.setPosition, hd, ArrayTable.position, List.getElem?_set_ne h.symm]

/-! ## Members and spares (R23) -/

/-- The positions with their numbers are the records of the table. -/
theorem ArrayTable.mem_numbered : (x, p) ∈ t.numbered ↔ t.position x = some p := by
  cases hd : t.definition with
  | none => simp [ArrayTable.numbered, ArrayTable.position, hd]
  | some d =>
    simp only [ArrayTable.numbered, ArrayTable.position, hd, List.mem_iff_getElem?, List.getElem?_zip_eq_some]
    constructor
    · rintro ⟨i, hi, hp⟩
      obtain ⟨_, hi⟩ := List.getElem?_eq_some_iff.1 hi
      rw [List.getElem_range] at hi
      rwa [← hi]
    · intro hp
      exact ⟨x, List.getElem?_range (List.getElem?_eq_some_iff.1 hp).1, hp⟩

/-- The position found by a condition on its record meets it. -/
theorem ArrayTable.position_of_find {test : PosRec → Bool}
    (h : (t.numbered.find? fun e => test e.2).map (fun e => e.1) = some x) :
    ∃ p, t.position x = some p ∧ test p = true := by
  obtain ⟨⟨y, p⟩, he, rfl⟩ := Option.map_eq_some_iff.1 h
  exact ⟨p, ArrayTable.mem_numbered.1 (List.mem_of_find?_eq_some he),
    List.find?_some (p := fun e : Nat × PosRec => test e.2) he⟩

/-- No position is found where none meets the condition. -/
theorem ArrayTable.find_eq_none_iff {test : PosRec → Bool} :
    (t.numbered.find? fun e => test e.2).map (fun e => e.1) = none ↔
      ∀ x p, t.position x = some p → test p = false := by
  simp only [Option.map_eq_none_iff, List.find?_eq_none, Prod.forall, ArrayTable.mem_numbered, Bool.not_eq_true]

theorem ArrayTable.memberOf_some (h : t.memberOf c = some x) : ∃ p, t.position x = some p ∧ p.channel = some c := by
  obtain ⟨p, hp, hc⟩ := ArrayTable.position_of_find (test := fun p => p.channel == some c) h
  exact ⟨p, hp, by simpa using hc⟩

theorem ArrayTable.memberOf_none : t.memberOf c = none ↔ ∀ x p, t.position x = some p → p.channel ≠ some c :=
  (ArrayTable.find_eq_none_iff (test := fun p => p.channel == some c)).trans (by simp)

theorem ArrayTable.spareOf_some (h : t.spareOf c = some x) : ∃ p, t.position x = some p ∧ p.spare = some c := by
  obtain ⟨p, hp, hc⟩ := ArrayTable.position_of_find (test := fun p => p.spare == some c) h
  exact ⟨p, hp, by simpa using hc⟩

theorem ArrayTable.spareOf_none : t.spareOf c = none ↔ ∀ x p, t.position x = some p → p.spare ≠ some c :=
  (ArrayTable.find_eq_none_iff (test := fun p => p.spare == some c)).trans (by simp)

/-- The use of a channel by the two searches (R23). -/
theorem ArrayTable.use_eq (t : ArrayTable) (c : Chan) : t.use c =
    if (t.memberOf c).isSome = true then .member
    else if (t.spareOf c).isSome = true then .assignedSpare else .unused := rfl

theorem ArrayTable.positionOf_eq (t : ArrayTable) (c : Chan) : t.positionOf c = (t.memberOf c).or (t.spareOf c) := by
  unfold ArrayTable.positionOf
  split <;> simp [*]

/-! ## The array state (R22) -/

theorem ArrayTable.state_of_none (h : t.definition = none) : t.state = .undefined ∧ t.lacking = 0 := by
  simp only [ArrayTable.state, ArrayTable.lacking, h, and_self]

theorem ArrayTable.lacking_of_some {d : ArrayDef} (h : t.definition = some d) : t.lacking = lackingOf d.positions := by
  simp only [ArrayTable.lacking, h]

theorem ArrayTable.state_of_some {d : ArrayDef} (h : t.definition = some d) :
    t.state = ArrayState.ofLacking (lackingOf d.positions) := by
  simp only [ArrayTable.state, h]

theorem ArrayState.ofLacking_failed {n : Nat} (h : 3 ≤ n) : ArrayState.ofLacking n = .failed := by
  obtain ⟨m, rfl⟩ := Nat.exists_eq_add_of_le' h
  rfl

/-! ## The failure of a position, where it is judged (R31 to R33) -/

variable {s : State}

/-- A channel that holds a position fails it. -/
theorem State.failChannel_member (hm : s.table.memberOf c = some x) (hp : s.table.position x = some p)
    (cause : FailCause) : s.failChannel c cause = s.failPosition x p cause := by
  simp only [State.failChannel, hm, hp]

/-- A channel that holds none changes nothing. -/
theorem State.failChannel_none (hm : s.table.memberOf c = none) (cause : FailCause) : s.failChannel c cause = s := by
  simp only [State.failChannel, hm]

/-- A demand on a member fails its position where it is taken, and is else withheld. -/
theorem State.demand_member (hm : s.table.memberOf c = some x) (hp : s.table.position x = some p) :
    s.demand c = if s.demandTaken p = true then s.failPosition x p .threshold else s := by
  simp only [State.demand, hm, Option.bind_some, hp, State.failChannel_member hm hp]

theorem State.demandTaken_inService (h : p.state = .inService) :
    s.demandTaken p = decide (s.table.lacking + 1 ≤ 2) := by
  simp only [State.demandTaken, h]

theorem State.demandTaken_rebuilding (h : p.state = .rebuilding) :
    s.demandTaken p = (s.table.state != .failed) := by
  simp only [State.demandTaken, h]

/-- Settles O21: the four cases of a member's state and the lacking count. -/
theorem demandJudged : Obligations.DemandJudged := by
  refine fun s c => ⟨fun hm => by simp only [State.demand, hm, Option.bind_none], fun x p hm hp => ?_⟩
  rw [State.demand_member hm hp]
  refine ⟨fun hs hl => ?_, fun hs hl => ?_, fun hs hl => ?_, fun hs hl => ?_⟩
  · rw [State.demandTaken_inService hs, if_pos (decide_eq_true (by omega))]
  · rw [State.demandTaken_inService hs, if_neg (by rw [decide_eq_true_eq]; omega)]
  · rw [State.demandTaken_rebuilding hs, if_pos (by simpa using hl)]
  · rw [State.demandTaken_rebuilding hs, if_neg (by simpa using hl)]

end Sys2Proof.Machine
end

section
/-! SUPPORT. What the requests that only read reply (spec/02, R39; spec/03, R59; spec/07, R136; spec/09, R161,
R168; O12). -/

namespace Sys2Proof.Machine

/-! ## The commands in a channel's slots (R59) -/

section
variable (ch : Channel) {test : SlotWork → Bool} {held : (SlotWork → Bool) → Nat}

theorem Channel.numbered_eq : ch.numbered = (List.finRange 4).map fun i => (i, ch.slots.get i) := rfl

/-- Counting slots by what they hold is counting slot numbers. -/
theorem Channel.length_filter_numbered
    (hheld : ∀ p, held p = ((List.finRange 4).filter fun i => (ch.slots.get i).any fun x => p x.work).length)
    {p : Fin 4 × Option Slot → Bool} (hp : ∀ e, p e = true ↔ ∃ x, e.2 = some x ∧ test x.work = true) :
    (ch.numbered.filter p).length = held test := by
  have hfilter : ch.numbered.filter p = ch.numbered.filter fun e => e.2.any fun x => test x.work :=
    List.filter_congr fun e _ => by rw [Bool.eq_iff_iff, hp, Option.any_eq_true]
  rw [hheld, hfilter, Channel.numbered_eq, List.filter_map, List.length_map]
  rfl

theorem Channel.foregroundOut_eq
    (hheld : ∀ p, held p = ((List.finRange 4).filter fun i => (ch.slots.get i).any fun x => p x.work).length)
    (h : ∀ w, test w = true ↔ ∃ tag cmd next outs n sh, w = .owned (.segment tag) cmd next outs n sh) :
    ch.foregroundOut = held test :=
  ch.length_filter_numbered hheld fun e => by
    split
    · simp_all
    · rw [eq_false Bool.false_ne_true, false_iff]
      rintro ⟨⟨tag, ms, work⟩, hx, hw⟩
      obtain ⟨tag, cmd, next, outs, n, sh, rfl⟩ := (h work).1 hw
      simp_all

theorem Channel.rebuildOut_eq
    (hheld : ∀ p, held p = ((List.finRange 4).filter fun i => (ch.slots.get i).any fun x => p x.work).length)
    (h : ∀ w, test w = true ↔ ∃ k cmd next outs n sh, w = .owned (.job k) cmd next outs n sh) :
    ch.rebuildOut = held test :=
  ch.length_filter_numbered hheld fun e => by
    split
    · simp_all
    · rw [eq_false Bool.false_ne_true, false_iff]
      rintro ⟨⟨tag, ms, work⟩, hx, hw⟩
      obtain ⟨k, cmd, next, outs, n, sh, rfl⟩ := (h work).1 hw
      simp_all

theorem Channel.probing_eq :
    ch.probing = (List.finRange 4).any fun i => (ch.slots.get i).any fun x => x.work == .probe := by
  have hnum : ((List.finRange 4).any fun i => (ch.slots.get i).any fun x => x.work == .probe) =
      ch.numbered.any fun e => e.2.any fun x => x.work == .probe := by
    rw [Channel.numbered_eq, List.any_map]
    rfl
  rw [hnum]
  refine congrArg (List.any ch.numbered) (funext fun e => ?_)
  split
  · simp_all
  · cases hx : e.2 with
    | none => rfl
    | some x =>
      cases x
      simp_all

end

/-! ## The Checkpoint Store's registers (R161, R168) -/

/-- Of a descending list, the first entry that meets a condition is the highest that does. -/
theorem find?_eq_some_of_descending {n : Nat} {l : List (Fin n)} (hl : l.Pairwise (· > ·)) (p : Fin n → Bool)
    (i : Fin n) : l.find? p = some i ↔ i ∈ l ∧ p i = true ∧ ∀ j ∈ l, i < j → p j = false := by
  induction l with
  | nil => simp
  | cons a l ih =>
    obtain ⟨ha, hl⟩ := List.pairwise_cons.1 hl
    by_cases hp : p a = true
    · rw [List.find?_cons_of_pos hp]
      constructor
      · rintro ⟨⟩
        refine ⟨List.mem_cons_self, hp, fun j hj hlt => ?_⟩
        rcases List.mem_cons.1 hj with rfl | hj
        · exact absurd hlt (lt_irrefl _)
        · exact absurd hlt (ha j hj).le.not_gt
      · rintro ⟨hi, -, hmax⟩
        rcases List.mem_cons.1 hi with rfl | hi
        · rfl
        · exact absurd hp (by rw [hmax a List.mem_cons_self (ha i hi)]; exact Bool.false_ne_true)
    · rw [List.find?_cons_of_neg hp, ih hl]
      constructor
      · rintro ⟨hi, hpi, hmax⟩
        refine ⟨List.mem_cons_of_mem _ hi, hpi, fun j hj hlt => ?_⟩
        rcases List.mem_cons.1 hj with rfl | hj
        · exact Bool.eq_false_iff.2 hp
        · exact hmax j hj hlt
      · rintro ⟨hi, hpi, hmax⟩
        rcases List.mem_cons.1 hi with rfl | hi
        · exact absurd hpi hp
        · exact ⟨hi, hpi, fun j hj => hmax j (List.mem_cons_of_mem _ hj)⟩

theorem highestSlot_eq_some_iff (p : Fin 64 → Bool) (i : Fin 64) :
    highestSlot p = some i ↔ p i = true ∧ ∀ j, i < j → p j = false := by
  rw [highestSlot, find?_eq_some_of_descending (List.pairwise_reverse.2 (List.pairwise_lt_finRange 64))]
  simp

/-- The latest record is the one in the highest WRITTEN slot of a VALID store (R161). -/
theorem CheckpointStore.latest_eq_some_iff (c : CheckpointStore) (i : Fin 64) (r : CheckpointRecord) :
    c.latest = some (i, r) ↔ c.classification = .valid ∧ c.slotMap.get i = .written ∧
      (∀ j, i < j → c.slotMap.get j ≠ .written) ∧ (c.nv.slots.get i).body = .record r := by
  have hslot : c.latestSlot = some i ↔ c.classification = .valid ∧ c.slotMap.get i = .written ∧
      ∀ j, i < j → c.slotMap.get j ≠ .written := by
    cases hc : c.classification with
    | retired => simp [CheckpointStore.latestSlot, hc]
    | valid =>
      simp only [CheckpointStore.latestSlot, hc, highestSlot_eq_some_iff, true_and, beq_iff_eq, beq_eq_false_iff_ne]
  have hbody : c.latest = some (i, r) ↔ c.latestSlot = some i ∧ (c.nv.slots.get i).body = .record r := by
    unfold CheckpointStore.latest
    cases c.latestSlot with
    | none => simp
    | some j =>
      by_cases hj : j = i
      · subst hj
        cases hb : (c.nv.slots.get j).body <;> simp [hb]
      · simp only [Option.some.injEq, hj, false_and, iff_false]
        split <;> simp [hj]
  rw [hbody, hslot]
  simp only [and_assoc]

/-- The slots of a status, counted by slot number. -/
theorem CheckpointStore.slotsOf_eq (c : CheckpointStore) (x : SlotStatus) :
    c.slotsOf x = ((List.finRange 64).filter fun i => c.slotMap.get i == x).length := by
  rw [CheckpointStore.slotsOf, Vec.toList_eq_map_get, List.filter_map, List.length_map]
  rfl

/-! ## The replies -/

theorem bankChannel_isSome (b : BankNo) : (bankChannel b).isSome = decide (b.val < 12) := by
  unfold bankChannel
  split <;> simp [*]

/-- A QUERY hands its reply and changes nothing else. -/
theorem State.Asked.route {s : State} {tag : Nat} (h : s.Asked tag) {code : Nat} (hq : code ∈ queryCodes)
    (own : State → State) : s.route tag code none own = own s :=
  State.route_query h (List.contains_iff_mem.2 hq) (by
    revert hq code
    decide)

/-- Settles O12: each request reaches its reply past the guard record, and the reply's counts are read slot by slot. -/
theorem readingRequestsOnlyReply : Obligations.ReadingRequestsOnlyReply := by
  refine ⟨fun t => ⟨ArrayTable.state_of_none, fun d n hd hn => ?_, fun c => ⟨fun x => ArrayTable.memberOf_some,
    ArrayTable.memberOf_none, fun x => ArrayTable.spareOf_some, ArrayTable.spareOf_none⟩⟩,
    fun s tag h => ⟨?_, ?_, fun c held hheld => ?_, fun c hc => ?_, fun b => ?_, fun b hb => ?_,
      fun count hcount => ?_, s.cps.latest_eq_some_iff, ?_⟩,
    fun s tag h => ⟨?_, ?_, fun i hi => ?_, fun i hi => ?_⟩⟩
  · rw [ArrayTable.lacking_of_some hd, ArrayTable.state_of_some hd, lackingOf, ← hn]
    exact ⟨rfl, by rintro rfl; rfl, by rintro rfl; rfl, by rintro rfl; rfl, ArrayState.ofLacking_failed⟩
  · exact congrArg _ (h.route (by decide) _)
  · exact congrArg _ (h.route (by decide) _)
  · refine congrArg _ ((h.route (by decide) _).trans ?_)
    simp only [State.onChannel, channelOf_val]
    refine congrArg (fun r => s.replyOk tag (.channel r)) ?_
    rw [State.channelReport, ArrayTable.positionOf_eq, Channel.probing_eq]
    congr 1
    · exact Channel.foregroundOut_eq _ hheld fun w => by split <;> simp_all
    · exact Channel.rebuildOut_eq _ hheld fun w => by split <;> simp_all
  · refine congrArg _ ((h.route (by decide) _).trans ?_)
    simp only [State.onChannel, channelOf_none hc]
    rfl
  · refine congrArg _ ((h.route (by decide) _).trans ?_)
    simp only [State.onBank, bankOf_val, bankChannel_isSome]
    rfl
  · refine congrArg _ ((h.route (by decide) _).trans ?_)
    simp only [State.onBank, bankOf_none hb]
    rfl
  · refine congrArg _ ((h.route (by decide) _).trans ?_)
    simp only [CheckpointStore.report, CheckpointStore.slotsOf_eq, hcount]
    rfl
  · exact congrArg _ (h.route (by decide) _)
  · exact congrArg _ (State.route_free h _ (by decide) _ _)
  · exact congrArg _ (State.route_free h _ (by decide) _ _)
  · refine congrArg _ ((State.route_free h _ (by decide) _ _).trans ?_)
    rw [State.takeListLost, if_neg (by omega)]
    rfl
  · refine congrArg _ ((State.route_free h _ (by decide) _ _).trans ?_)
    rw [State.takeListLost, if_pos hi]
    rfl

end Sys2Proof.Machine
end

section
/-! SUPPORT. DEFINE-ARRAY (spec/02, R25 to R27; O18) and the guarded requests on a position (R24, R28 to R30; O19),
accepted and refused. -/

namespace Sys2Proof.Machine

/-! ## The checks of DEFINE-ARRAY (R25) -/

theorem namesTwice_eq_true_iff (xs : List Nat) : namesTwice xs = true ↔ ¬xs.Nodup := by
  induction xs with
  | nil => simp [namesTwice]
  | cons x xs ih =>
    rw [namesTwice, Bool.or_eq_true, ih, List.contains_iff_mem, List.nodup_cons, Classical.not_and_iff_not_or_not,
      Classical.not_not]

theorem Geometry.valid_iff (g : Geometry) : g.valid = true ↔
    4 ≤ g.w ∧ g.w ≤ 11 ∧ g.k ∈ [8, 16, 32, 64] ∧ g.b0 ≤ 1048575 ∧ 1 ≤ g.s ∧ g.s ≤ 2147483648 := by
  simp only [Geometry.valid, Bool.and_eq_true, decide_eq_true_eq, List.contains_iff_mem, and_assoc]

section
variable {s : State} {g : Geometry} {es : List PositionEntry}

theorem entryBad_iff (e : PositionEntry) : entryBad e = false ↔ e.state ≤ 1 ∧ (e.state = 0 → e.channel ≤ 11) := by
  simp [entryBad, entryServes]

theorem any_entryBad_iff : es.any entryBad = false ↔ ∀ e ∈ es, e.state ≤ 1 ∧ (e.state = 0 → e.channel ≤ 11) := by
  simp only [List.any_eq_false, Bool.not_eq_true, entryBad_iff]

theorem mem_servingChannels {n : Nat} : n ∈ servingChannels es ↔ ∃ e ∈ es, e.state = 0 ∧ e.channel = n := by
  simp [servingChannels, entryServes, and_assoc]

theorem State.readyChannel_val (c : Chan) : s.readyChannel c.val = true ↔ (s.channel c).state = .ready := by
  simp [State.readyChannel, channelOf_val]

theorem State.smallChannel_val (c : Chan) :
    s.smallChannel g c.val = true ↔ (s.channel c).capacity.getD 0 < g.b0 + g.s * g.k := by
  rw [State.smallChannel, channelOf_val, Option.any_some, decide_eq_true_eq, Geometry.memberEnd]

/-- A serving channel that is not READY is found, -/
theorem State.any_unready {e : PositionEntry} (he : e ∈ es) (h0 : e.state = 0) {c : Chan} (hc : e.channel = c.val)
    (hr : (s.channel c).state ≠ .ready) : (servingChannels es).any (fun c => !s.readyChannel c) = true :=
  List.any_eq_true.2 ⟨c.val, mem_servingChannels.2 ⟨e, he, h0, hc⟩, by
    rw [Bool.not_eq_true', Bool.eq_false_iff, ne_eq, State.readyChannel_val]
    exact hr⟩

/-- and none where all are. -/
theorem State.any_unready_eq_false (hgood : ∀ e ∈ es, e.state = 0 → e.channel ≤ 11)
    (h : ∀ e ∈ es, ∀ c : Chan, e.state = 0 → e.channel = c.val → (s.channel c).state = .ready) :
    (servingChannels es).any (fun c => !s.readyChannel c) = false :=
  List.any_eq_false.2 fun n hn => by
    obtain ⟨e, he, h0, rfl⟩ := mem_servingChannels.1 hn
    have hready := (State.readyChannel_val (s := s) ⟨e.channel, Nat.lt_succ_of_le (hgood e he h0)⟩).2 (h e he _ h0 rfl)
    rw [hready]
    exact Bool.false_ne_true

/-- A serving channel whose drive is too small is found, -/
theorem State.any_small {e : PositionEntry} (he : e ∈ es) (h0 : e.state = 0) {c : Chan} (hc : e.channel = c.val)
    (hs : (s.channel c).capacity.getD 0 < g.b0 + g.s * g.k) : (servingChannels es).any (s.smallChannel g) = true :=
  List.any_eq_true.2 ⟨c.val, mem_servingChannels.2 ⟨e, he, h0, hc⟩, (State.smallChannel_val c).2 hs⟩

/-- and none where every one has a drive that is large enough. -/
theorem State.any_small_eq_false (h : ∀ e ∈ es, e.state = 0 → ∃ c : Chan, e.channel = c.val ∧
    g.b0 + g.s * g.k ≤ (s.channel c).capacity.getD 0) : (servingChannels es).any (s.smallChannel g) = false :=
  List.any_eq_false.2 fun n hn => by
    obtain ⟨e, he, h0, rfl⟩ := mem_servingChannels.1 hn
    obtain ⟨c, hc, hcap⟩ := h e he h0
    rw [hc, State.smallChannel_val]
    omega

/-! ## The way of a DEFINE-ARRAY (R190, R191) -/

/-- With no array and no guard, or under a guard that names it, a DEFINE-ARRAY reaches the Array Table, and no guard is
left. -/
theorem exec_defineArray {tag : Nat} (g : Geometry)
    (h : (s.Open tag ∧ s.table.definition = none) ∨ s.GuardedBy tag 0x10 none) :
    exec (.defineArray tag g.w g.k g.b0 g.s es) s = .next (State.takeDefine tag g es (s.setGuard none)) := by
  rcases h with ⟨ho, hd⟩ | hg
  · rw [State.setGuard_self s none ho.2.2]
    exact congrArg _ (State.route_open ho (by simp [State.guardedNow, hd]))
  · exact congrArg _ (State.route_guarded hg)

theorem State.takeDefine_refused {tag : Nat} {status : Status} (hi : s.rbc.state = .idle) (hr : s.esu.requests = [])
    (hw : g.w ≠ 0) (h : s.defineRefusal g es = some status) : s.takeDefine tag g es = s.refuse tag status := by
  simp only [State.takeDefine, hi, hr, hw, h, ne_eq, not_true_eq_false, if_false]

theorem State.takeDefine_accepted {tag : Nat} (hi : s.rbc.state = .idle) (hr : s.esu.requests = [])
    (hw : g.w ≠ 0) (h : s.defineRefusal g es = none) :
    s.takeDefine tag g es = (s.define (some { geom := g, positions := es.map entryRecord })).replyOk tag .empty := by
  simp only [State.takeDefine, hi, hr, hw, h, ne_eq, not_true_eq_false, if_false]

theorem State.takeDefine_removal {tag : Nat} (hi : s.rbc.state = .idle) (hr : s.esu.requests = []) (hw : g.w = 0) :
    s.takeDefine tag g es =
      if s.table.definition.isSome = true then (s.define none).replyOk tag .empty else s.replyOk tag .empty := by
  simp only [State.takeDefine, hi, hr, hw, ne_eq, not_true_eq_false, if_false, if_true]
  cases s.table.definition <;> rfl

end

/-- A set without any line. -/
theorem BufferSet.drop_all : BufferSet.drop (fun _ _ => true) = fun b => { b with line0 := none, line1 := none } :=
  funext fun b => by simp [BufferSet.drop]

theorem State.define_eq (d : Option ArrayDef) (s : State) : s.define d = { s with
    table := { definition := d }
    cbs := { s.cbs with sets := s.cbs.sets.map fun b => { b with line0 := none, line1 := none } }
    lel := { s.lel with entries := [] } } := by
  rw [← BufferSet.drop_all]
  rfl

theorem entryRecord_eq : entryRecord = fun e : PositionEntry =>
    if e.state = 0 then { state := .inService, channel := channelOf e.channel, spare := none, cause := none }
    else { state := .failed, channel := none, spare := none, cause := none } :=
  funext fun e => by simp only [entryRecord, entryServes, beq_iff_eq]

/-- Settles O18: the checks of R25 in their order, each by the test of the model that makes it. -/
theorem arrayDefined : Obligations.ArrayDefined := by
  refine ⟨fun s tag g es hroute hidle hreq hw4 hw11 hk hb hs1 hs2 hstate hnodup hchan => ?_,
    fun s tag k b0 stripes es hidle hreq => ⟨fun hg hd => ?_, fun ho hd => ?_⟩,
    fun s tag w k b0 stripes es status valid good hroute hvalid hgood hcase => ?_⟩
  · have hbad : es.any entryBad = false := any_entryBad_iff.2 fun e he => ⟨by have := hstate e he; omega, fun h0 => by
      obtain ⟨c, n, hc, -⟩ := hchan e he h0
      omega⟩
    have htwice : namesTwice (servingChannels es) = false :=
      Bool.eq_false_iff.2 fun h => (namesTwice_eq_true_iff _).1 h hnodup
    have hready := State.any_unready_eq_false (s := s.setGuard none) (fun e he => (any_entryBad_iff.1 hbad e he).2)
      fun e he c h0 hc => by
        obtain ⟨c', n, hc', hr, -⟩ := hchan e he h0
        rwa [Fin.ext (hc.symm.trans hc')]
    have hsmall := State.any_small_eq_false (s := s.setGuard none) (g := g) fun e he h0 => by
      obtain ⟨c, n, hc, -, hcap, hn⟩ := hchan e he h0
      exact ⟨c, hc, by change _ ≤ (s.channel c).capacity.getD 0; rwa [hcap]⟩
    have hnone : (s.setGuard none).defineRefusal g es = none := by
      simp [State.defineRefusal, g.valid_iff.2 ⟨hw4, hw11, hk, hb, hs1, hs2⟩, hbad, htwice, hready, hsmall]
    rw [exec_defineArray g hroute,
      State.takeDefine_accepted (s := s.setGuard none) hidle hreq (by omega) hnone, State.define_eq, entryRecord_eq]
    rfl
  · refine (exec_defineArray ⟨0, k, b0, stripes⟩ (.inr hg)).trans ?_
    rw [State.takeDefine_removal (s := s.setGuard none) hidle hreq rfl, State.setGuard_table, if_pos hd,
      State.define_eq]
    rfl
  · refine (exec_defineArray ⟨0, k, b0, stripes⟩ (.inl ⟨ho, hd⟩)).trans ?_
    rw [State.setGuard_self s none ho.2.2, State.takeDefine_removal hidle hreq rfl, hd]
    rfl
  · refine (exec_defineArray ⟨w, k, b0, stripes⟩ hroute).trans (congrArg _ ?_)
    rcases hcase with ⟨hpass, rfl⟩ | ⟨hidle, ⟨hreq, rfl⟩ | ⟨hreq, hw, hcase⟩⟩
    · exact if_pos hpass
    · exact (if_neg (by simpa using hidle)).trans (if_pos hreq)
    refine State.takeDefine_refused (s := s.setGuard none) hidle hreq hw ?_
    have hv : Geometry.valid ⟨w, k, b0, stripes⟩ = true ↔ valid := (Geometry.valid_iff _).trans hvalid.symm
    rw [← any_entryBad_iff] at hgood
    rw [State.defineRefusal]
    rcases hcase with ⟨hbad, rfl⟩ | ⟨hval, hgd, hcase⟩
    · by_cases hval : valid
      · rw [hv.2 hval, Bool.eq_true_of_not_eq_false fun h => hbad ⟨hval, hgood.2 h⟩]
        rfl
      · rw [Bool.eq_false_iff.2 (hv.not.2 hval)]
        rfl
    have hchan := fun e he => (any_entryBad_iff.1 (hgood.1 hgd) e he).2
    rw [hv.2 hval, hgood.1 hgd]
    rcases hcase with ⟨htwice, rfl⟩ | ⟨hnodup, hcase⟩
    · rw [(namesTwice_eq_true_iff (servingChannels es)).2 htwice]
      rfl
    rw [Bool.eq_false_iff.2 fun h => (namesTwice_eq_true_iff (servingChannels es)).1 h hnodup]
    rcases hcase with ⟨⟨e, he, c, h0, hc, hr⟩, rfl⟩ | ⟨hready, ⟨e, he, c, n, h0, hc, hcap, hn⟩, rfl⟩
    · rw [State.any_unready (s := s.setGuard none) he h0 hc hr]
      rfl
    · rw [State.any_unready_eq_false (s := s.setGuard none) hchan hready,
        State.any_small (s := s.setGuard none) he h0 hc (by
          change (s.channel c).capacity.getD 0 < _
          rwa [hcap])]
      rfl

/-! ## The requests on a position (R24, R28 to R30) -/

section
variable {s : State} {tag x : Nat}

theorem State.onPosition_of {d : ArrayDef} {p : PosRec} (hd : s.table.definition = some d) (hx : x < d.geom.w)
    (hp : d.positions[x]? = some p) (own : ArrayDef → PosRec → State → State) :
    s.onPosition tag x own = own d p s := by
  simp only [State.onPosition, hd, hp, Nat.not_le.2 hx, if_false]

theorem State.onPosition_absent
    (h : s.table.definition = none ∨ ∃ d, s.table.definition = some d ∧ d.geom.w ≤ x)
    (own : ArrayDef → PosRec → State → State) :
    s.onPosition tag x own = s.refuse tag (if s.table.definition = none then .notDefined else .badValue) := by
  rcases h with hd | ⟨d, hd, hx⟩
  · simp only [State.onPosition, hd, if_true]
  · simp [State.onPosition, hd, hx]

theorem State.onPositionChannel_absent
    (h : s.table.definition = none ∨ ∃ d, s.table.definition = some d ∧ d.geom.w ≤ x) (c : Nat)
    (own : ArrayDef → PosRec → Chan → State → State) : s.onPositionChannel tag x c own =
      s.refuse tag (if s.table.definition = none then .notDefined else .badValue) :=
  State.onPosition_absent h _

theorem State.onPositionChannel_of {d : ArrayDef} {p : PosRec} (hd : s.table.definition = some d) (hx : x < d.geom.w)
    (hp : d.positions[x]? = some p) (c : Chan) (own : ArrayDef → PosRec → Chan → State → State) :
    s.onPositionChannel tag x c.val own = own d p c s := by
  simp only [State.onPositionChannel, State.onPosition_of hd hx hp, channelOf_val]

theorem State.onPositionChannel_badChannel {d : ArrayDef} {p : PosRec} (hd : s.table.definition = some d)
    (hx : x < d.geom.w) (hp : d.positions[x]? = some p) {c : Nat} (hc : 11 < c)
    (own : ArrayDef → PosRec → Chan → State → State) :
    s.onPositionChannel tag x c own = s.refuse tag .badValue := by
  simp only [State.onPositionChannel, State.onPosition_of hd hx hp, channelOf_none hc]

/-- A channel is free for ASSIGN-SPARE while it is unused, or the spare of the same position (R29, check 2). -/
theorem ArrayTable.usedElsewhere_eq_false_iff (t : ArrayTable) (x : Nat) (c : Chan) : t.usedElsewhere x c = false ↔
    t.memberOf c = none ∧ (t.spareOf c = none ∨ t.spareOf c = some x) := by
  cases hm : t.memberOf c with
  | some y => simp [ArrayTable.usedElsewhere, ArrayTable.use_eq, hm]
  | none => cases hs : t.spareOf c <;> simp [ArrayTable.usedElsewhere, ArrayTable.use_eq, hm, hs]

theorem ArrayTable.use_eq_unused_iff (t : ArrayTable) (c : Chan) :
    t.use c = .unused ↔ t.memberOf c = none ∧ t.spareOf c = none := by
  cases hm : t.memberOf c with
  | some y => simp [ArrayTable.use_eq, hm]
  | none => cases hs : t.spareOf c <;> simp [ArrayTable.use_eq, hm, hs]

theorem State.channelRefusal_notReady {g : Geometry} {c : Chan} (h : (s.channel c).state ≠ .ready) :
    s.channelRefusal g c = some .channelNotReady := if_pos h

theorem State.channelRefusal_small {g : Geometry} {c : Chan} (h : (s.channel c).state = .ready)
    (hs : ¬g.b0 + g.s * g.k ≤ (s.channel c).capacity.getD 0) : s.channelRefusal g c = some .tooSmall :=
  (if_neg (not_not.2 h)).trans (if_pos (Nat.lt_of_not_le hs))

theorem State.channelRefusal_none {g : Geometry} {c : Chan} (h : (s.channel c).state = .ready)
    (hs : g.b0 + g.s * g.k ≤ (s.channel c).capacity.getD 0) : s.channelRefusal g c = none :=
  (if_neg (not_not.2 h)).trans (if_neg (Nat.not_lt.2 hs))

end

section
variable {s : State} {tag x : Nat}

theorem exec_failMember (h : s.GuardedBy tag 0x11 (some x)) :
    exec (.failMember tag x) s = .next (State.takeFail tag x (s.setGuard none)).settle :=
  congrArg (fun u : State => Host.Outcome.next u.settle) (State.route_guarded h)

theorem exec_assignSpare (h : s.GuardedBy tag 0x12 (some x)) (c : Nat) :
    exec (.assignSpare tag x c) s = .next (State.takeAssign tag x c (s.setGuard none)) :=
  congrArg _ (State.route_guarded h)

theorem exec_returnMember (h : s.GuardedBy tag 0x13 (some x)) (c : Nat) :
    exec (.returnMember tag x c) s = .next (State.takeReturn tag x c (s.setGuard none)) :=
  congrArg _ (State.route_guarded h)

end

/-- Settles O19: the checks of R24 come first, then each request's own. -/
theorem membersChangedByRequest : Obligations.MembersChangedByRequest := by
  refine ⟨?_, ?_⟩
  · rintro s u tag x rfl ha h status rfl
    have habsent := State.onPositionChannel_absent (s := s.setGuard none) (tag := tag) h
    refine ⟨fun hg => (exec_failMember hg).trans (congrArg _ ?_),
      fun c => ⟨fun hg => (exec_assignSpare hg c).trans (congrArg _ (habsent c _)),
        fun hg => (exec_returnMember hg c).trans (congrArg _ (habsent c _))⟩⟩
    exact (congrArg _ (State.onPosition_absent (s := s.setGuard none) h _)).trans
      (State.settle_idle _ (by simpa using ha))
  · rintro s u tag x d p rfl hd hx hp
    have hon := State.onPosition_of (s := s.setGuard none) (tag := tag) hd hx hp
    have hbad := fun c hc => State.onPositionChannel_badChannel (s := s.setGuard none) (tag := tag) hd hx hp (c := c) hc
    have hch := State.onPositionChannel_of (s := s.setGuard none) (tag := tag) hd hx hp
    refine ⟨fun hg ha => ⟨fun hf => (exec_failMember hg).trans (congrArg _ (congrArg _ ((hon _).trans (if_neg hf)))),
      fun hf => (exec_failMember hg).trans (congrArg _ ?_)⟩,
      fun c hc => ⟨fun hg => (exec_assignSpare hg c).trans (congrArg _ (hbad c hc _)),
        fun hg => (exec_returnMember hg c).trans (congrArg _ (hbad c hc _))⟩,
      fun c large hlarge => ⟨fun hg free hfree => ?_, fun hg free hfree => ?_⟩⟩
    · exact (congrArg _ ((hon _).trans (if_pos hf))).trans (State.settle_idle _ (by simpa using ha))
    · rw [← ArrayTable.usedElsewhere_eq_false_iff] at hfree
      rw [exec_assignSpare hg, State.takeAssign, hch]
      refine ⟨fun hp => congrArg _ (if_pos hp), fun hp hu => congrArg _ ?_, fun hp hu hr => congrArg _ ?_,
        fun hp hu hr hl => congrArg _ ?_, fun hp hu hr hl => congrArg _ ?_⟩ <;>
        refine (if_neg (not_not.2 hp)).trans ?_
      · exact if_pos (Bool.eq_true_of_not_eq_false (hfree.not.1 hu))
      all_goals refine (if_neg (Bool.eq_false_iff.1 (hfree.1 hu))).trans ?_
      · rw [State.channelRefusal_notReady (s := s.setGuard none) hr]
        rfl
      · rw [State.channelRefusal_small (s := s.setGuard none) hr (hlarge.not.1 hl)]
        rfl
      · rw [State.channelRefusal_none (s := s.setGuard none) hr (hlarge.1 hl), ArrayTable.setPosition]
        simp only [State.setGuard_table, hd]
        rfl
    · rw [← ArrayTable.use_eq_unused_iff] at hfree
      rw [exec_returnMember hg, State.takeReturn, hch]
      refine ⟨fun hp => congrArg _ (if_pos (by simpa [Option.isSome_iff_ne_none] using hp)),
        fun hp hs hu => congrArg _ ?_, fun hp hs hu hr => congrArg _ ?_,
        fun hp hs hu hr hl => congrArg _ ?_, fun hp hs hu hr hl => congrArg _ ?_⟩ <;>
        refine (if_neg (by simp [hp, hs])).trans ?_
      · exact if_pos (hfree.not.1 hu)
      all_goals refine (if_neg (not_not.2 (hfree.1 hu))).trans ?_
      · rw [State.channelRefusal_notReady (s := s.setGuard none) hr]
        rfl
      · rw [State.channelRefusal_small (s := s.setGuard none) hr (hlarge.not.1 hl)]
        rfl
      · rw [State.channelRefusal_none (s := s.setGuard none) hr (hlarge.1 hl), ArrayTable.setPosition]
        simp only [State.setGuard_table, hd]
        rfl

end Sys2Proof.Machine
end

section
/-! SUPPORT. The contents after a restart (spec/02, R41; spec/03, R61; spec/09, R172; spec/11, R194; O14) and after a
cold start (spec/03, R60; spec/11, R195; O60). -/

namespace Sys2Proof.Machine

/-! ## A restart -/

/-- A command keeps its drive-link tag and its allowance. -/
theorem Slot.orphaned_eq (x : Slot) : x.orphaned = { x with work := x.orphaned.work } := by
  unfold Slot.orphaned
  split
  · split <;> rfl
  · rfl

theorem Slot.orphaned_tag (x : Slot) : x.orphaned.tag = x.tag := by rw [Slot.orphaned_eq]

/-- No command has an owner after a restart (R61). -/
theorem Slot.orphaned_work_ne_owned (x : Slot) (o : Owner) (cmd : DriveCmd) (next : Nat) (outs : List BlockOutcome)
    (n : Nat) (sh : List (Nat × Nat)) : x.orphaned.work ≠ .owned o cmd next outs n sh := by
  unfold Slot.orphaned
  split
  · split <;> simp
  · next h => exact h o cmd next outs n sh

theorem Slot.orphaned_probe {x : Slot} (h : x.work = .probe) : x.orphaned = x := by
  simp only [Slot.orphaned, h]

theorem Slot.orphaned_orphan {x : Slot} {cmd : DriveCmd} (h : x.work = .orphan cmd) : x.orphaned = x := by
  simp only [Slot.orphaned, h]

theorem Slot.orphaned_write {x : Slot} {o : Owner} {cmd : DriveCmd} {next n : Nat} {outs : List BlockOutcome}
    {sh : List (Nat × Nat)} (h : x.work = .owned o cmd next outs n sh) {bs : List Block} {flags : List Bool}
    (hop : cmd.op = .write bs flags) : x.orphaned.work = .orphan cmd := by
  simp only [Slot.orphaned, h, hop]

theorem Slot.orphaned_read {x : Slot} {o : Owner} {cmd : DriveCmd} {next n : Nat} {outs : List BlockOutcome}
    {sh : List (Nat × Nat)} (h : x.work = .owned o cmd next outs n sh) {notes : List RefetchNote}
    (hop : cmd.op = .read notes) : x.orphaned.work = .orphan
      { position := cmd.position, first := next, count := cmd.first + cmd.count - next, op := cmd.op } := by
  simp only [Slot.orphaned, h, hop, DriveCmd.remaining]

@[simp] theorem Channel.restarted_slot (ch : Channel) (i : Fin 4) :
    ch.restarted.slots.get i = (ch.slots.get i).map Slot.orphaned := Vec.get_map _ _ _

/-- The commands keep their tags, -/
theorem Channel.restarted_tagsOut (ch : Channel) : ch.restarted.tagsOut = ch.tagsOut := by
  simp only [Channel.tagsOut, Channel.numbered_eq, List.filterMap_map]
  refine List.filterMap_congr fun i _ => ?_
  simp [Function.comp_def, Slot.orphaned_tag]

/-- and none has an owner. -/
theorem Channel.restarted_slot_ne_owned (ch : Channel) {e : Fin 4 × Option Slot} (he : e ∈ ch.restarted.numbered)
    (tag ms : Nat) (o : Owner) (cmd : DriveCmd) (next : Nat) (outs : List BlockOutcome) (n : Nat)
    (sh : List (Nat × Nat)) : e.2 ≠ some { tag := tag, allowance := ms, work := .owned o cmd next outs n sh } := by
  rw [Channel.numbered_eq, List.mem_map] at he
  obtain ⟨i, -, rfl⟩ := he
  intro h
  obtain ⟨x, -, hx⟩ := Option.map_eq_some_iff.1 ((ch.restarted_slot i).symm.trans h)
  exact x.orphaned_work_ne_owned o cmd next outs n sh (congrArg Slot.work hx)

theorem Channel.restarted_rebuildOut (ch : Channel) : ch.restarted.rebuildOut = 0 := by
  rw [Channel.rebuildOut, List.length_eq_zero_iff, List.filter_eq_nil_iff]
  intro e he
  split
  · next h => exact absurd h (ch.restarted_slot_ne_owned he _ _ _ _ _ _ _ _)
  · exact Bool.false_ne_true

theorem Channel.restarted_foregroundOut (ch : Channel) : ch.restarted.foregroundOut = 0 := by
  rw [Channel.foregroundOut, List.length_eq_zero_iff, List.filter_eq_nil_iff]
  intro e he
  split
  · next h => exact absurd h (ch.restarted_slot_ne_owned he _ _ _ _ _ _ _ _)
  · exact Bool.false_ne_true

theorem State.partRestart_channel (s : State) (c : Chan) : s.partRestart.channel c = (s.channel c).restarted :=
  Vec.get_map _ _ _

theorem PosRec.restarted_eq (p : PosRec) : p.restarted =
    if p.state = .rebuilding then { p with state := .failed, channel := none, spare := p.channel } else p := by
  unfold PosRec.restarted
  cases h : p.state <;> simp

theorem ArrayTable.restarted_position {t : ArrayTable} {x : Nat} {p : PosRec} (h : t.position x = some p) :
    t.restarted.position x = some p.restarted := by
  cases hd : t.definition with
  | none => simp [ArrayTable.position, hd] at h
  | some d =>
    simp only [ArrayTable.position, hd] at h
    simp only [ArrayTable.position, ArrayTable.restarted, hd, Option.map_some, List.getElem?_map, h]

/-- Settles O14: the end of the transmission of RESTART's reply restarts the part. -/
theorem restartContents : Obligations.RestartContents := by
  intro s f hsend hrestart
  have hexec : exec .frameTransmitted s = .next s.partRestart :=
    congrArg Host.Outcome.next (show s.transmitted = s.partRestart by simp only [State.transmitted, hsend, hrestart])
  refine ⟨s.partRestart, hexec, rfl, s.table.restarted_geom, fun x p hp => ?_, rfl, rfl, rfl, rfl, rfl, rfl, rfl, rfl,
    fun c => ?_, fun h => ?_, fun i r h => ?_, fun step answers h => ?_, rfl, rfl, rfl, rfl, rfl⟩
  · rw [← PosRec.restarted_eq]
    exact ArrayTable.restarted_position hp
  · rw [State.partRestart_channel]
    refine ⟨rfl, Channel.restarted_tagsOut _, Channel.restarted_rebuildOut _, Channel.restarted_foregroundOut _,
      fun i => ⟨fun h => by rw [Channel.restarted_slot, h]; rfl, fun tag ms work h => ?_⟩⟩
    refine ⟨(Slot.orphaned ⟨tag, ms, work⟩).work, ?_, fun hw => ?_, fun cmd hw => ?_,
      fun o cmd next outs n sh hw => ⟨fun bs flags hop => ?_, fun notes hop => ?_⟩⟩
    · rw [Channel.restarted_slot, h, Option.map_some, Slot.orphaned_eq]
    · rw [Slot.orphaned_probe (x := ⟨tag, ms, work⟩) hw, hw]
    · rw [Slot.orphaned_orphan (x := ⟨tag, ms, work⟩) hw, hw]
    · exact Slot.orphaned_write (x := ⟨tag, ms, work⟩) hw hop
    · exact Slot.orphaned_read (x := ⟨tag, ms, work⟩) hw hop
  · change s.cps.restarted = _
    simp only [CheckpointStore.restarted, h]
  · change s.cps.restarted = _
    simp only [CheckpointStore.restarted, h]
  · change s.cps.restarted = _
    simp only [CheckpointStore.restarted, h]

/-! ## A probe begins (R43) -/

/-- A channel without commands sends its CAPACITY command under the counter's value (R48). -/
theorem Channel.send_probe (ch : Channel) :
    Channel.send { ch.emptied with state := .probing, capacity := none } 0 Config.probeAllowance .probe =
      ch.Probing ch.presence := by
  have htags : Channel.tagsOut { ch.emptied with state := .probing, capacity := none } = [] := by
    simp [Channel.tagsOut, Channel.numbered_eq, Channel.emptied]
  have htag : Channel.nextTag { ch.emptied with state := .probing, capacity := none } = ch.tagCounter := by
    rw [Channel.nextTag, htags]
    rfl
  simp only [Channel.send, htag]
  rfl

theorem State.startProbe_eq (c : Chan) (s : State) :
    s.startProbe c = State.latch .channelChange (s.putChannel c ((s.channel c).Probing (s.channel c).presence)) :=
  congrArg (fun ch => State.latch .channelChange (s.putChannel c ch)) (s.channel c).send_probe

theorem State.insertion_empty {c : Chan} {s : State} (h : (s.channel c).state = .empty) :
    s.insertion c = State.latch .channelChange (s.putChannel c ((s.channel c).Probing true)) := by
  simp only [State.insertion, h, if_true, State.startProbe_eq, State.channel_putChannel_same,
    State.putChannel_putChannel]
  rfl

theorem State.insertion_taken {c : Chan} {s : State} (h : (s.channel c).state ≠ .empty) : s.insertion c = s := if_neg h

@[simp] theorem State.latch_channel (a : Attention) (s : State) (c : Chan) : (s.latch a).channel c = s.channel c := by
  simp only [State.channel, State.latch_dc]

/-! ## The presence lines are read (R60) -/

/-- While no frame is queued, the choice of one queues none (R192). -/
theorem State.chooseFrame_queue_nil {s : State} (h : s.ali.queue = []) : s.chooseFrame.ali.queue = [] := by
  have hold : ∀ u : State, u.ali.queue = [] → u.sendOldest.ali.queue = [] := fun u hu => by
    simp only [State.sendOldest, hu]
  unfold State.chooseFrame
  split
  · exact h
  · split
    · split
      · exact h
      · exact hold _ h
    · exact hold _ h

theorem State.latch_queue_nil {s : State} (a : Attention) (h : s.ali.queue = []) : (s.latch a).ali.queue = [] := by
  have hidle : ∀ u : State, u.ali.queue = [] → u.ifIdleChoose.ali.queue = [] := fun u hu => by
    unfold State.ifIdleChoose
    split
    · exact State.chooseFrame_queue_nil hu
    · exact hu
  unfold State.latch
  split
  · exact h
  · split
    · exact h
    · exact hidle _ h

/-- What reading a presence line leaves of the part. -/
def State.KeptByPresence (s u : State) : Prop :=
  u.ali.taking = s.ali.taking ∧ u.ali.guard = s.ali.guard ∧ (s.ali.queue = [] → u.ali.queue = []) ∧
    u.table = s.table ∧ u.slt = s.slt ∧ u.esu = s.esu ∧ u.rbc = s.rbc ∧ u.cbs = s.cbs ∧ u.lel = s.lel ∧
    u.dc.share = s.dc.share ∧ u.cps = s.cps ∧ u.eba.banks = s.eba.banks

theorem State.readPresence_kept (presence : BitVec 12) (c : Chan) (s : State) :
    s.KeptByPresence (s.readPresence presence c) := by
  unfold State.readPresence
  split
  · by_cases hc : (s.channel c).state = .empty
    · rw [State.insertion_empty hc]
      refine ⟨?_, ?_, fun h => State.latch_queue_nil _ h, ?_⟩ <;> simp
    · rw [State.insertion_taken hc]
      exact ⟨rfl, rfl, id, rfl, rfl, rfl, rfl, rfl, rfl, rfl, rfl, rfl⟩
  · exact ⟨rfl, rfl, id, rfl, rfl, rfl, rfl, rfl, rfl, rfl, rfl, rfl⟩

theorem State.KeptByPresence.trans {s u v : State} (h : s.KeptByPresence u) (h' : u.KeptByPresence v) :
    s.KeptByPresence v := by
  obtain ⟨h1, h2, h3, h4, h5, h6, h7, h8, h9, h10, h11, h12⟩ := h
  obtain ⟨k1, k2, k3, k4, k5, k6, k7, k8, k9, k10, k11, k12⟩ := h'
  exact ⟨k1.trans h1, k2.trans h2, fun h => k3 (h3 h), k4.trans h4, k5.trans h5, k6.trans h6, k7.trans h7,
    k8.trans h8, k9.trans h9, k10.trans h10, k11.trans h11, k12.trans h12⟩

section
variable (presence : BitVec 12) {s : State} {c : Chan}

theorem State.readPresence_channel_other {d : Chan} (h : c ≠ d) :
    (s.readPresence presence c).channel d = s.channel d := by
  unfold State.readPresence
  split
  · by_cases hc : (s.channel c).state = .empty
    · rw [State.insertion_empty hc, State.latch_channel, State.channel_putChannel_other _ _ _ _ h]
    · rw [State.insertion_taken hc]
  · rfl

theorem State.readPresence_channel_same (h : s.channel c = Channel.cold) : (s.readPresence presence c).channel c =
    if presence.getLsbD c.val then Channel.cold.Probing true else Channel.cold := by
  unfold State.readPresence
  split
  · rw [State.insertion_empty (by rw [h]; rfl), State.latch_channel, State.channel_putChannel_same, h]
  · exact h

theorem State.readPresence_attention (h : s.channel c = Channel.cold) :
    (s.readPresence presence c).eba.attention =
      s.eba.attention ||| if presence.getLsbD c.val then Attention.channelChange.bit else 0 := by
  unfold State.readPresence
  split
  · rw [State.insertion_empty (by rw [h]; rfl), State.latch_attention]
    rfl
  · simp

/-- The lines of some channels are read in turn: each probes its drive, if it has one, and the others stay. -/
theorem State.readPresences_spec (l : List Chan) (hl : l.Nodup) :
    ∀ s : State, (∀ c ∈ l, s.channel c = Channel.cold) →
      s.KeptByPresence (l.foldl (fun s c => s.readPresence presence c) s) ∧
      (∀ c ∈ l, (l.foldl (fun s c => s.readPresence presence c) s).channel c =
        if presence.getLsbD c.val then Channel.cold.Probing true else Channel.cold) ∧
      (∀ c ∉ l, (l.foldl (fun s c => s.readPresence presence c) s).channel c = s.channel c) ∧
      (l.foldl (fun s c => s.readPresence presence c) s).eba.attention = s.eba.attention |||
        if l.any (fun c => presence.getLsbD c.val) then Attention.channelChange.bit else 0 := by
  induction l with
  | nil => exact fun s _ => ⟨⟨rfl, rfl, id, rfl, rfl, rfl, rfl, rfl, rfl, rfl, rfl, rfl⟩, by simp⟩
  | cons a l ih =>
    obtain ⟨ha, hl⟩ := List.nodup_cons.1 hl
    intro s hcold
    have hne : ∀ c ∈ l, a ≠ c := fun c hc h => ha (h ▸ hc)
    obtain ⟨hkept, hin, hout, hatt⟩ := ih hl (s.readPresence presence a) fun c hc => by
      rw [State.readPresence_channel_other presence (hne c hc)]
      exact hcold c (List.mem_cons_of_mem _ hc)
    have hacold := hcold a List.mem_cons_self
    refine ⟨(State.readPresence_kept presence a s).trans hkept, fun c hc => ?_, fun c hc => ?_, ?_⟩
    · rcases List.mem_cons.1 hc with rfl | hc
      · exact (hout c ha).trans (State.readPresence_channel_same presence hacold)
      · exact hin c hc
    · obtain ⟨hca, hcl⟩ := not_or.1 (List.mem_cons.not.1 hc)
      exact (hout c hcl).trans (State.readPresence_channel_other presence (Ne.symm hca))
    · rw [List.foldl_cons, hatt, State.readPresence_attention presence hacold, List.any_cons, BitVec.or_assoc]
      cases presence.getLsbD a.val <;> cases l.any (fun c => presence.getLsbD c.val) <;> simp

end

theorem State.powerUp_nv (left : PowerLeft) (s : State) :
    (s.powerUp left).cps.nv = s.cps.nv.afterPowerLoss s.cps.op left := rfl

theorem any_presence (presence : BitVec 12) :
    (List.finRange 12).any (fun c => presence.getLsbD c.val) = decide (presence ≠ 0) := by
  rw [Bool.eq_iff_iff, decide_eq_true_eq, List.any_eq_true]
  constructor
  · rintro ⟨c, -, hc⟩ rfl
    simp at hc
  · intro h
    by_contra hall
    refine h (BitVec.eq_of_getLsbD_eq fun i hi => ?_)
    simpa using fun hp => hall ⟨⟨i, hi⟩, List.mem_finRange _, hp⟩

/-- Settles O60: every block takes its cold contents, and the presence lines are then read channel by channel. -/
theorem coldStartContents : Obligations.ColdStartContents := by
  intro s presence left
  obtain ⟨⟨htaking, hguard, hqueue, htable, hslt, hesu, hrbc, hcbs, hlel, hshare, hcps, hbanks⟩, hchan, -, hatt⟩ :=
    State.readPresences_spec presence (List.finRange 12) (List.nodup_finRange 12) (s.powerUp left) fun c _ =>
      Vec.get_replicate _ _
  refine ⟨_, rfl, htaking, hguard, hqueue rfl, by rw [htable]; rfl, by rw [hslt]; rfl, by rw [hslt]; rfl,
    by rw [hesu]; rfl, hrbc, hcbs, by rw [hlel]; rfl, by rw [hlel]; rfl, hshare, fun c => hchan c (List.mem_finRange c),
    ?_⟩
  rw [hcps, hbanks, hatt, any_presence]
  refine ⟨rfl, rfl, rfl, rfl, rfl, rfl, fun h => ?_, fun i r h => ?_, fun answers h => ?_, fun answers h => ?_,
    fun answers h => ?_, fun i => Vec.get_replicate _ _, fun n hn => ?_⟩
  · rw [State.powerUp_nv, h]
    rfl
  · rw [State.powerUp_nv, h]
    rfl
  · rw [State.powerUp_nv, h]
    rfl
  · rw [State.powerUp_nv, h, NvArray.afterPowerLoss, cellsAfterErase]
    split <;> rfl
  · rw [State.powerUp_nv, h]
    rfl
  · have hbit : ∀ n < 8, Attention.channelChange.bit.getLsbD n = decide (n = 6) := by decide
    change (0#8 ||| _).getLsbD n = _
    rw [BitVec.zero_or]
    split
    · next h => rw [hbit n hn, h, Bool.and_true]
    · next h => rw [Bool.eq_false_iff.2 h, Bool.and_false]; exact BitVec.getLsbD_zero

end Sys2Proof.Machine
end

section
/-! SUPPORT. Events and resets of a channel by its use (spec/03, R45, R47; O42), and the answers (R56; O45) and the
timers (R55; O46) of drive commands. -/

namespace Sys2Proof.Machine

section
variable {s : State} {c : Chan}

/-- An event at one of the twelve channels reaches it. -/
theorem State.atChannel_val (own : Chan → State → State) (c : Chan) (s : State) : s.atChannel c.val own = own c s := by
  simp only [State.atChannel, channelOf_val]

/-- Work that is added in two goes stands in the order of the goes. -/
theorem State.laterAll_later (ts : List Task) (t : Task) (s : State) :
    State.laterAll ts (s.later t) = s.laterAll (t :: ts) := by
  simp [State.laterAll, State.later]

theorem State.later_later (t t' : Task) (s : State) : State.later t' (s.later t) = s.laterAll [t, t'] := by
  simp [State.laterAll, State.later]

/-! ## The assignment of a spare is cancelled (R38) -/

theorem State.cancelSpare_none (h : s.table.spareOf c = none) : s.cancelSpare c = s := by
  simp only [State.cancelSpare, h]

theorem State.cancelSpare_some {x : Nat} {p : PosRec} (h : s.table.spareOf c = some x)
    (hp : s.table.position x = some p) : s.cancelSpare c =
      { s with table := s.table.setPosition x { p with spare := none, cause := some .spareLost } } := by
  simp only [State.cancelSpare, h, hp]

/-! ## Removal (R45) -/

theorem exec_removal (s : State) (c : Chan) : exec (.removal c.val) s = .next (s.removal c).settle :=
  congrArg (fun u : State => Host.Outcome.next u.settle) (State.atChannel_val State.removal c s)

theorem State.removal_member (hs : (s.channel c).state ≠ .empty) (hm : (s.table.memberOf c).isSome = true) :
    s.removal c = State.later (.failChannel c .removed)
      (State.latch .channelChange (s.putChannel c { s.channel c with presence := false })) :=
  (if_neg hs).trans (if_pos hm)

theorem State.removal_other (hs : (s.channel c).state ≠ .empty) (hm : s.table.memberOf c = none) :
    s.removal c = State.laterAll ((s.channel c).endings c)
      (State.cancelSpare c (State.latch .channelChange (s.putChannel c (s.channel c).Emptied))) :=
  (if_neg hs).trans (if_neg (by simp [hm]))

/-! ## RESET-CHANNEL (R47) -/

theorem exec_resetChannel {tag : Nat} (h : s.Open tag) (c : Chan) :
    exec (.resetChannel tag c.val) s = .next (s.takeReset tag c).settle := by
  refine congrArg (fun u : State => Host.Outcome.next u.settle) ((State.route_free h _ (by decide) _ _).trans ?_)
  simp only [State.onChannel, channelOf_val]

theorem State.takeReset_probes {tag : Nat} (hm : s.table.memberOf c = none)
    (hs : (s.channel c).state = .offline ∨ (s.channel c).state = .ready) : s.takeReset tag c =
      State.laterAll ((s.channel c).endings c) (State.reply tag .ok .empty (State.startProbe c (s.cancelSpare c))) := by
  rw [State.takeReset, hm]
  rcases hs with hs | hs <;> rw [hs] <;> rfl

/-- Settles O42: the use of the channel decides what a removal and a reset do. -/
theorem drivesRemovedAndReset : Obligations.DrivesRemovedAndReset := by
  refine ⟨fun s c hs ha => ⟨fun hm hsp => ?_, fun x p hm hsp hp => ⟨_, rfl, ?_⟩, fun x hm => ?_⟩,
    fun s tag ho ha => ⟨fun c => ⟨fun hm hs => ⟨fun hsp => ?_, fun x p hsp hp => ?_⟩, fun hm hs => ?_, fun hm hs => ?_,
      fun hm => ?_⟩, fun c hc => ?_⟩⟩
  · rw [exec_removal, State.removal_other hs hm, State.cancelSpare_none (by simpa using hsp)]
  · rw [exec_removal, State.removal_other hs hm, State.cancelSpare_some (by simpa using hsp) (by simpa using hp)]
    simp
  · rw [exec_removal, State.removal_member hs (by rw [hm]; rfl)]
  · rw [exec_resetChannel ho, State.takeReset_probes hm hs, State.cancelSpare_none hsp, State.startProbe_eq]
  · rw [exec_resetChannel ho, State.takeReset_probes hm hs, State.cancelSpare_some hsp hp, State.startProbe_eq]
    rfl
  · rw [exec_resetChannel ho, State.takeReset, hm, hs]
    exact congrArg _ (State.settle_idle _ (by simpa using ha))
  · rw [exec_resetChannel ho, State.takeReset, hm, hs]
    exact congrArg _ (State.settle_idle _ (by simpa using ha))
  · rw [exec_resetChannel ho, State.takeReset, if_pos hm]
    exact congrArg _ (State.settle_idle _ (by simpa using ha))
  · refine congrArg Host.Outcome.next ((congrArg State.settle ((State.route_free ho codeResetChannel (by decide) none
      (State.onChannel tag c (State.takeReset tag))).trans ?_)).trans
        (State.settle_idle (State.reply tag .badValue .empty s) (by simpa using ha)))
    simp only [State.onChannel, channelOf_none hc]
    rfl

/-! ## A WRITE is answered (R56) -/

/-- A completion that carries the tag of an owned WRITE answers it. -/
theorem State.completion_write {tag ms next n : Nat} {i : Fin 4} {o : Owner} {cmd : DriveCmd}
    {outs : List BlockOutcome} {sh : List (Nat × Nat)} {bs : List Block} {flags : List Bool} {r : Completion}
    (hs : (s.channel c).state = .ready) (hop : cmd.op = .write bs flags)
    (ht : (s.channel c).findTag tag = some (i, { tag := tag, allowance := ms, work := .owned o cmd next outs n sh })) :
    s.completion c tag r = s.writeAnswer c i o cmd r := by
  simp only [State.completion, hs, ht, hop, reduceCtorEq, or_self, if_false]

theorem exec_writeCompletion (s : State) (c : Chan) (tag : Nat) (r : Completion) :
    exec (.writeCompletion c.val tag r) s = .next (s.completion c tag r).settle :=
  congrArg (fun u : State => Host.Outcome.next u.settle)
    (State.atChannel_val (fun c => State.completion c tag r) c s)

/-- A WRITE that failed on a member, with no demand in its train, is logged and fails the position (R32). -/
theorem State.writeFailed_member {x : Nat} {e : ErrorFields} (hm : s.table.memberOf c = some x)
    (h : (s.eba.banks.get (channelBank c)).autoFail = false ∨ (s.eba.banks.get (channelBank c)).counter ≠ 4094) :
    s.writeFailed c e = State.later (.failChannel c .writeFailure) (s.takeError (channelBank c) e) := by
  have hno : ((s.eba.banks.get (channelBank c)).reaches && (s.eba.banks.get (channelBank c)).autoFail) = false := by
    rcases h with h | h
    · rw [h, Bool.and_false]
    · rw [Bank.reaches, beq_false_of_ne (by change _ ≠ 4095; omega), Bool.false_and]
  simp only [State.writeFailed, hm, Option.isSome_some, hno, if_true, Bool.false_eq_true, if_false]

theorem State.writeAnswer_good {i : Fin 4} {o : Owner} {cmd : DriveCmd} {r : Completion} {bs : List Block}
    {flags : List Bool} (hop : cmd.op = .write bs flags) (hr : r.result = .good) :
    s.writeAnswer c i o cmd r = State.later (.writeDone o) (State.freeSlot c i
      (State.trimRuns cmd.position (markedRuns cmd.first flags)
        (s.writeThrough (some o.errorOwner) cmd.position cmd.first bs))) := by
  simp only [State.writeAnswer, hr, DriveCmd.trims, DriveCmd.blocks, hop]

theorem State.writeAnswer_failed {i : Fin 4} {o : Owner} {cmd : DriveCmd} {r : Completion} (hr : r.result ≠ .good) :
    s.writeAnswer c i o cmd r = State.laterAll [.writeDone o, .arbiter c]
      (State.writeFailed c (writeError cmd r (some o.errorOwner))
        (s.putChannel c { s.channel c with slots := (s.channel c).slots.set i none })) := by
  unfold State.writeAnswer
  split
  · next h => exact absurd h hr
  · rfl

/-- The error of a failed WRITE, whichever of MEDIUM and DEVICE it ended (Table 3-3; log 22). -/
theorem writeError_eq (cmd : DriveCmd) (r : Completion) (owner : Option ErrorOwner) : writeError cmd r owner =
    if r.result = .medium then
      { code := .mediumWrite, uncorrected := true, block := some r.number, count := cmd.count,
        kind := some .write, owner := owner }
    else
      { code := .device, uncorrected := true, block := some cmd.first, count := cmd.count,
        kind := some .write, owner := owner } := by
  cases h : r.result <;> simp [writeError, h, driveError]

/-- Settles O45: the result of the completion decides between the update of the buffer store and the failure. -/
theorem writesAnswered : Obligations.WritesAnswered := by
  intro s c tag ms next reissues x i o cmd outs sh bs flags r hs hop ht
  rw [exec_writeCompletion, State.completion_write hs hop ht]
  refine ⟨fun hr => by rw [State.writeAnswer_good hop hr], fun hr hm hbank => ?_⟩
  rw [State.writeAnswer_failed hr, State.writeFailed_member (by simpa using hm) (by simpa using hbank),
    State.laterAll_later, writeError_eq]

/-! ## The timer of a drive command (R55) -/

theorem exec_commandTimeout (s : State) (c : Chan) (tag : Nat) :
    exec (.commandTimeout c.val tag) s = .next (s.commandTimeout c tag).settle :=
  congrArg (fun u : State => Host.Outcome.next u.settle)
    (State.atChannel_val (fun c => State.commandTimeout c tag) c s)

@[simp] theorem State.runArbiter_eba (c : Chan) (s : State) : (s.runArbiter c).eba = s.eba := by
  simp only [State.runArbiter]
  split <;> rfl

@[simp] theorem State.freeSlot_eba (c : Chan) (i : Fin 4) (s : State) : (s.freeSlot c i).eba = s.eba := by
  simp [State.freeSlot]

/-- Settles O46: the command in the slot that carries the tag decides what its timer's expiry does. -/
theorem commandTimesOut : Obligations.CommandTimesOut := by
  intro s c tag ha
  rw [exec_commandTimeout]
  refine ⟨fun ms next n i o cmd outs sh ht => ⟨fun notes hop => ?_, fun bs flags x hop hm hbank => ?_⟩, fun ht => ?_⟩
  · simp only [State.commandTimeout, ht, hop]
    rfl
  · simp only [State.commandTimeout, ht, hop]
    rw [State.writeFailed_member (by simpa using hm) (by simpa using hbank), State.later_later]
    rfl
  · rw [State.commandTimeout, ht]
    exact congrArg _ (State.settle_idle s ha)

end

end Sys2Proof.Machine
end

section
/-! SUPPORT. The positions that a pass changes one by one (R37, R128): the end of a pass (R142; O28) and the advance of
its frontier (R127 to R129; O27). -/

namespace Sys2Proof.Machine

/-! ## Positions changed one by one -/

section
variable {t : ArrayTable} {x : Nat}

/-- The table with the record of position x, where it has one, changed by a function. -/
def ArrayTable.change (f : PosRec → PosRec) (t : ArrayTable) (x : Nat) : ArrayTable :=
  match t.position x with
  | some p => t.setPosition x (f p)
  | none => t

theorem ArrayTable.change_some {p : PosRec} (h : t.position x = some p) (f : PosRec → PosRec) :
    t.change f x = t.setPosition x (f p) := by
  simp only [ArrayTable.change, h]

theorem ArrayTable.change_none (h : t.position x = none) (f : PosRec → PosRec) : t.change f x = t := by
  simp only [ArrayTable.change, h]

theorem ArrayTable.position_change (f : PosRec → PosRec) (t : ArrayTable) (x y : Nat) :
    (t.change f x).position y = if y = x then (t.position y).map f else t.position y := by
  cases h : t.position x with
  | none =>
    rw [ArrayTable.change_none h]
    split
    · next hy => rw [hy, h]; rfl
    · rfl
  | some p =>
    rw [ArrayTable.change_some h]
    split
    · next hy => rw [hy, ArrayTable.position_setPosition_same h, h]; rfl
    · next hy => exact ArrayTable.position_setPosition_other hy _

/-- Positions that are changed in turn, none of them with an effect twice, are those of the list. -/
theorem ArrayTable.position_foldl_change (f : PosRec → PosRec) (xs : List Nat) (t : ArrayTable) (y : Nat)
    (hf : xs.Nodup ∨ ∀ p, f (f p) = f p) :
    (xs.foldl (ArrayTable.change f) t).position y = if y ∈ xs then (t.position y).map f else t.position y := by
  induction xs generalizing t with
  | nil => simp
  | cons x xs ih =>
    rw [List.foldl_cons, ih _ (hf.imp_left fun h => (List.nodup_cons.1 h).2), ArrayTable.position_change]
    by_cases hx : y = x
    · subst hx
      rw [if_pos rfl, if_pos List.mem_cons_self]
      split
      · next hmem =>
        have hff : ∀ p, f (f p) = f p := hf.resolve_left fun h => (List.nodup_cons.1 h).1 hmem
        cases t.position y <;> simp [hff]
      · rfl
    · simp [hx]

end

/-! ## The lines of the buffer store that an invalidation leaves (R72) -/

theorem State.line_invalidatePosition (x : Nat) (s : State) (i : Fin 256) (w : Way) (l : Line) :
    ((s.invalidatePosition x).cbs.sets.get i).line w = some l ↔
      (s.cbs.sets.get i).line w = some l ∧ l.position ≠ x := by
  simp only [State.invalidatePosition, State.invalidate, Vec.get_map]
  cases w <;> simp [BufferSet.drop, BufferSet.line, Option.filter_eq_some_iff]

/-! ## A target that returns to FAILED (R37) -/

/-- The record of a REBUILDING position that returns to FAILED. -/
def PosRec.backToFailed (p : PosRec) : PosRec := { p with state := .failed, channel := none, spare := p.channel }

section
variable (x : Nat) (xs : List Nat) (s : State)

theorem State.returnPosition_table : (s.returnPosition x).table = s.table.change PosRec.backToFailed x := by
  cases h : s.table.position x with
  | none => simp only [State.returnPosition, ArrayTable.change, h]
  | some p => simp only [State.returnPosition, ArrayTable.change, h]; rfl

theorem State.returnPosition_cases : ∃ table cbs, s.returnPosition x = { s with table := table, cbs := cbs } := by
  simp only [State.returnPosition]
  split <;> exact ⟨_, _, rfl⟩

/-- A line goes where its position exists and is returned. -/
theorem State.line_returnPosition (i : Fin 256) (w : Way) (l : Line) :
    ((s.returnPosition x).cbs.sets.get i).line w = some l ↔
      (s.cbs.sets.get i).line w = some l ∧ (l.position = x → s.table.position x = none) := by
  cases h : s.table.position x with
  | none => simp [State.returnPosition, h]
  | some p =>
    simp only [State.returnPosition, h, reduceCtorEq, imp_false]
    exact State.line_invalidatePosition x { s with table := s.table.setPosition x _ } i w l

theorem State.foldl_returnPosition_table : (xs.foldl (fun s x => State.returnPosition x s) s).table =
    xs.foldl (ArrayTable.change PosRec.backToFailed) s.table :=
  (List.foldl_hom State.table fun u x => (State.returnPosition_table x u).symm).symm

theorem State.foldl_returnPosition_cases : ∃ table cbs,
    xs.foldl (fun s x => State.returnPosition x s) s = { s with table := table, cbs := cbs } := by
  induction xs generalizing s with
  | nil => exact ⟨s.table, s.cbs, rfl⟩
  | cons x xs ih =>
    obtain ⟨table, cbs, h⟩ := State.returnPosition_cases x s
    obtain ⟨table', cbs', h'⟩ := ih (s.returnPosition x)
    exact ⟨table', cbs', by rw [List.foldl_cons, h', h]⟩

theorem State.line_foldl_returnPosition (i : Fin 256) (w : Way) (l : Line) :
    ((xs.foldl (fun s x => State.returnPosition x s) s).cbs.sets.get i).line w = some l ↔
      (s.cbs.sets.get i).line w = some l ∧ (l.position ∈ xs → s.table.position l.position = none) := by
  induction xs generalizing s with
  | nil => simp
  | cons x xs ih =>
    have habsent : (s.returnPosition x).table.position l.position = none ↔ s.table.position l.position = none := by
      rw [State.returnPosition_table, ArrayTable.position_change]
      split <;> simp
    rw [List.foldl_cons, ih, State.line_returnPosition, habsent, List.mem_cons]
    by_cases hx : l.position = x
    · subst hx
      simp +contextual [and_assoc]
    · simp [hx]

end

/-! ## The end of a pass (R142) -/

theorem State.handRecord_of_geom {s : State} {g : Geometry} (h : s.geom = some g) (ts : List Target)
    (result : PassResult) : s.handRecord ts result = s.giveRecord (s.composeRecord g ts result) := by
  simp only [State.handRecord, h]

theorem State.giveRecord_rbc (r : CheckpointRecord) (s : State) : (s.giveRecord r).rbc = s.rbc := by
  obtain ⟨ali, cps, eba, h⟩ := State.giveRecord_cases r s
  rw [h]

theorem PassRecord.mem_active {p : PassRecord} {x : Nat} : x ∈ (p.active.map fun t => t.position) ↔
    ∃ a ∈ p.targets, a.state = .active ∧ a.position = x := by
  simp [PassRecord.active, Target.active, and_assoc]

/-- Settles O28: the ACTIVE targets are returned one by one, and none of them twice. -/
theorem passEnds : Obligations.PassEnds := by
  intro s t g result hg ht hnodup
  let back := s.rbc.active.map fun t => t.position
  let start := s.putPass { s.rbc with window := [], lastResult := result }
  obtain ⟨table, cbs, hback⟩ := State.foldl_returnPosition_cases back start
  have hrbc : (back.foldl (fun s x => State.returnPosition x s) start).rbc = start.rbc := by rw [hback]
  have hgeom : (back.foldl (fun s x => State.returnPosition x s) start).geom = some g :=
    (State.foldl_keeps (fun u => u.table.geom) _ (fun u x => u.returnPosition_geom x) back start).trans hg
  have hposition (x : Nat) := State.foldl_returnPosition_table back start ▸
    ArrayTable.position_foldl_change PosRec.backToFailed back start.table x (.inl hnodup)
  have hline := State.line_foldl_returnPosition back start
  have hend : t = State.latch .passEnded (State.putPass start.rbc.ended
      ((back.foldl (fun s x => State.returnPosition x s) start).giveRecord
        (State.composeRecord start g (start.rbc.endTargets result) result))) := by
    rw [ht, State.endPass, State.handRecord_of_geom hgeom, State.giveRecord_rbc, State.composeRecord,
      State.composeRecord, hrbc]
  have htrbc : t.rbc = start.rbc.ended := by rw [hend, State.latch_rbc]; rfl
  refine ⟨htrbc, ?_, back.foldl (fun s x => State.returnPosition x s) start, _, ?_, rfl, ?_, hgeom, fun x p hp =>
    ⟨fun hx => ⟨?_, fun i w l hl hlx => ?_⟩, fun hx => ?_⟩, fun i w l hl hne => ?_⟩
  · rw [hend, State.latch_attention]
    simp [Attention.bit, Attention.number]
  · rw [hback]; rfl
  · rw [htrbc, hend]; rfl
  · exact (hposition x).trans ((if_pos (PassRecord.mem_active.2 hx)).trans (congrArg _ hp))
  · have habsent := ((hline i w l).1 hl).2 (hlx ▸ PassRecord.mem_active.2 hx)
    rw [hlx] at habsent
    exact Option.some_ne_none p (hp.symm.trans habsent)
  · refine (hposition x).trans ((if_neg fun hmem => ?_).trans hp)
    obtain ⟨a, ha, hact, hpos⟩ := PassRecord.mem_active.1 hmem
    exact hx a ha hact hpos
  · refine (hline i w l).2 ⟨hl, fun hmem => ?_⟩
    obtain ⟨a, ha, hact, hpos⟩ := PassRecord.mem_active.1 hmem
    exact absurd hpos (hne a ha hact)

/-! ## Targets that turn DONE (R128) -/

/-- The record of a REBUILDING position that turns IN-SERVICE. -/
def PosRec.finished (p : PosRec) : PosRec := { p with state := .inService, cause := none }

theorem State.finishPosition_eq (x : Nat) (s : State) :
    s.finishPosition x = { s with table := s.table.change PosRec.finished x } := by
  cases h : s.table.position x with
  | none => simp only [State.finishPosition, ArrayTable.change, h]
  | some p => simp only [State.finishPosition, ArrayTable.change, h]; rfl

theorem State.foldl_finishPosition_eq (ts : List Target) (s : State) :
    ts.foldl (fun s t => State.finishPosition t.position s) s =
      { s with table := (ts.map fun t => t.position).foldl (ArrayTable.change PosRec.finished) s.table } := by
  induction ts generalizing s with
  | nil => rfl
  | cons a ts ih => rw [List.foldl_cons, ih, State.finishPosition_eq]; rfl

theorem State.finishTargets_eq (ts : List Target) (s : State) : s.finishTargets ts =
    { s with
      table := (ts.map fun t => t.position).foldl (ArrayTable.change PosRec.finished) s.table
      rbc := { s.rbc with
        targets := s.rbc.targets.filter fun a => !ts.contains a
        doneTargets := if ts = [] then s.rbc.doneTargets else ts.map fun a => { a with state := .done } } } := by
  cases ts with
  | nil => simp [State.finishTargets]
  | cons a ts =>
    rw [State.finishTargets, if_neg (List.cons_ne_nil a ts), State.foldl_finishPosition_eq]
    rfl

/-! ## The frontier (R127, R129, R132, R143) -/

theorem PassRecord.passed_append {p : PassRecord} {done rest : List Job} (h : p.window = done ++ rest)
    (hdone : ∀ j ∈ done, j.state = .complete) (hrest : ∀ j js, rest = j :: js → j.state ≠ .complete) :
    p.passed = done := by
  rw [PassRecord.passed, h, List.takeWhile_append_of_pos fun j hj => by simp [hdone j hj]]
  cases rest with
  | nil => simp
  | cons j js => simp [hrest j js rfl]

theorem PassRecord.passed_eq_nil {p : PassRecord} (h : ∀ j js, p.window = j :: js → j.state ≠ .complete) :
    p.passed = [] :=
  PassRecord.passed_append (List.nil_append p.window).symm (by simp) h

theorem State.advanceFrontier_none {s : State} (h : s.rbc.passed = []) : s.advanceFrontier = s.later .drained := by
  simp only [State.advanceFrontier, h]

theorem State.advanceFrontier_some {s : State} {g : Geometry} (hp : s.rbc.passed ≠ []) (hg : s.geom = some g) :
    s.advanceFrontier = State.afterAdvance s.rbc.f g (s.putPass { s.rbc with
      f := s.rbc.f + s.rbc.passed.length, window := s.rbc.window.drop s.rbc.passed.length }) := by
  simp only [State.advanceFrontier, hg]

theorem PassRecord.reached_eq (p : PassRecord) (stripes : Nat) : p.reached stripes =
    p.targets.filter fun a => a.state == .active && decide (a.start + stripes ≤ p.f) := by
  rw [PassRecord.reached, PassRecord.active, List.filter_filter]
  exact List.filter_congr fun a _ => Bool.and_comm _ _

theorem State.handProgress_rbc (s : State) : s.handProgress.rbc = s.rbc := by
  obtain ⟨ali, cps, eba, h⟩ := State.handRecord_cases s.rbc.targets .none s
  rw [State.handProgress, h]

theorem State.pauseIfEmpty_stays {s : State} (h : s.rbc.state ≠ .pausing ∨ s.rbc.window ≠ []) : s.pauseIfEmpty = s :=
  if_neg fun hp => h.elim (fun hs => hs hp.1) fun hw => hw hp.2

theorem State.pauseIfEmpty_paused {s : State} (hs : s.rbc.state = .pausing) (hw : s.rbc.window = []) :
    s.pauseIfEmpty = State.handProgress { s with rbc := { s.rbc with state := .paused } } :=
  if_pos ⟨hs, hw⟩

/-- An advance short of E (R128, R129, R143). -/
theorem State.afterAdvance_short {s v w : State} {g : Geometry} {old : Nat} {done : List Target}
    (hd : s.rbc.reached g.s = done) (hv : s.finishTargets done = v) (he : v.rbc.f ≠ v.rbc.e)
    (hw : w = if done ≠ [] ∨ old / v.cps.interval < v.rbc.f / v.cps.interval then v.handProgress else v) :
    s.afterAdvance old g = State.laterAll [.startJobs, .drained] w.pauseIfEmpty ∧ w.rbc = v.rbc := by
  constructor
  · simp only [State.afterAdvance, hd, hv, if_neg he, hw, crossesInterval, Bool.or_eq_true, decide_eq_true_eq,
      Bool.not_eq_true', List.isEmpty_eq_false_iff, ne_eq, or_comm]
  · rw [hw]
    split
    · exact State.handProgress_rbc v
    · rfl

/-- Settles O27: the COMPLETE jobs at the head are passed, and E and the targets reached decide what follows. -/
theorem frontierAdvances : Obligations.FrontierAdvances := by
  refine ⟨fun s h => State.advanceFrontier_none (PassRecord.passed_eq_nil h), ?_⟩
  intro s g done rest reached hg hwindow hne hdone hrest hreached
  have hpassed := PassRecord.passed_append hwindow hdone hrest
  let p : PassRecord := { s.rbc with f := s.rbc.f + done.length, window := rest }
  have hadvance : s.advanceFrontier = State.afterAdvance s.rbc.f g (s.putPass p) := by
    rw [State.advanceFrontier_some (hpassed ▸ hne) hg, hpassed, hwindow, List.drop_left]
  have hreach : p.reached g.s = reached := (PassRecord.reached_eq p g.s).trans hreached.symm
  have hv := State.finishTargets_eq reached (s.putPass p)
  have hshort (he : s.rbc.f + done.length ≠ s.rbc.e) {w : State} :=
    State.afterAdvance_short (s := s.putPass p) (old := s.rbc.f) (w := w) hreach rfl (by rw [hv]; exact he)
  refine ⟨(s.putPass p).finishTargets reached, ?_, ?_, fun x q hq => ?_, fun he => ?_, fun he w hw =>
    ⟨fun hstay => ?_, fun hpausing hnil => ?_⟩⟩
  · exact (State.finishTargets_geom reached (s.putPass p)).trans hg
  · rw [hv]; rfl
  · rw [hv]
    refine (ArrayTable.position_foldl_change PosRec.finished _ s.table x (.inr fun _ => rfl)).trans ?_
    rw [hq]
    split <;> rfl
  · rw [hadvance, State.afterAdvance, show (s.putPass p).rbc.reached g.s = reached from hreach]
    exact if_pos (by rw [hv]; exact he)
  · obtain ⟨hafter, hrbc⟩ := hshort he (hw.trans (by rw [hv]; rfl))
    rw [hadvance, hafter, State.pauseIfEmpty_stays (by rw [hrbc, hv]; exact hstay)]
  · obtain ⟨hafter, hrbc⟩ := hshort he (hw.trans (by rw [hv]; rfl))
    rw [hadvance, hafter, State.pauseIfEmpty_paused (by rw [hrbc, hv]; exact hpausing) (by rw [hrbc, hv]; exact hnil)]

end Sys2Proof.Machine
end

section
/-! SUPPORT. The failure of a position and of the array (R34 to R36, R115, R140; O20). -/

namespace Sys2Proof.Machine

/-! ## What follows a failure leaves the channels and the buffer lines (R35, R36) -/

section
variable (s : State)

theorem State.giveUp_keeps (r : Requester) : (s.giveUp r).dc = s.dc ∧ (s.giveUp r).cbs = s.cbs := by
  obtain ⟨slt, agenda, h⟩ := State.giveUp_cases r s
  rw [h]
  exact ⟨rfl, rfl⟩

theorem State.failRequest_keeps (r : ExtentReq) : (s.failRequest r).dc = s.dc ∧ (s.failRequest r).cbs = s.cbs := by
  unfold State.failRequest
  split
  · exact State.giveUp_keeps s _
  · exact ⟨rfl, rfl⟩
  · exact ⟨rfl, rfl⟩

theorem State.failRequests_keeps : s.failRequests.dc = s.dc ∧ s.failRequests.cbs = s.cbs :=
  ⟨State.foldl_keeps State.dc _ (fun u r => (u.failRequest_keeps r).1) _ _,
    State.foldl_keeps State.cbs _ (fun u r => (u.failRequest_keeps r).2) _ _⟩

theorem State.passArrayFailed_keeps : s.passArrayFailed.dc = s.dc ∧ s.passArrayFailed.cbs = s.cbs := by
  unfold State.passArrayFailed
  split
  · exact ⟨rfl, rfl⟩
  · obtain ⟨rbc, slt, agenda, h⟩ := State.cutJobs_cases (s.putPass (s.rbc.stopFor .abortedArrayFailed))
    rw [h]
    exact ⟨rfl, rfl⟩

theorem State.arrayFails_keeps : s.arrayFails.dc = s.dc ∧ s.arrayFails.cbs = s.cbs := by
  obtain ⟨hdc, hcbs⟩ := State.failRequests_keeps (s.latch .arrayLost).passArrayFailed
  obtain ⟨hdc', hcbs'⟩ := State.passArrayFailed_keeps (s.latch .arrayLost)
  exact ⟨hdc.trans (hdc'.trans (s.latch_dc _)), hcbs.trans (hcbs'.trans (s.latch_cbs _))⟩

theorem State.targetLost_keeps (x : Nat) (g : Geometry) :
    (s.targetLost x g).dc = s.dc ∧ (s.targetLost x g).cbs = s.cbs := by
  obtain ⟨ali, rbc, slt, cps, eba, agenda, h⟩ := State.targetLost_cases x g s
  rw [h]
  exact ⟨rfl, rfl⟩

end

/-! ## The position that fails (R34) -/

section
variable {s : State} {x : Nat} {p : PosRec}

/-- The state with a position failed, its former channel ended and its lines gone, and nothing else done yet. -/
def State.fallen (x : Nat) (p : PosRec) (cause : FailCause) (s : State) : State :=
  (State.failFormer p.channel cause
    { s with table := s.table.setPosition x (PosRec.failedBy cause) }).1.invalidatePosition x

theorem State.fallen_cases (x : Nat) (p : PosRec) (cause : FailCause) (s : State) : s.fallen x p cause =
    { s with
      table := s.table.setPosition x (PosRec.failedBy cause)
      dc := (s.fallen x p cause).dc, cbs := (s.invalidatePosition x).cbs } := by
  simp only [State.fallen, State.failFormer]
  split <;> rfl

theorem State.channel_fallen_member {c : Chan} (h : p.channel = some c) (cause : FailCause) :
    (s.fallen x p cause).channel c = (s.channel c).failed cause := by
  rw [State.fallen, h]
  exact State.channel_putChannel_same _ c _

theorem State.channel_fallen_other {c : Chan} (h : p.channel ≠ some c) (cause : FailCause) :
    (s.fallen x p cause).channel c = s.channel c := by
  cases hp : p.channel with
  | none => rw [State.fallen, hp]; rfl
  | some c' =>
    rw [State.fallen, hp]
    exact State.channel_putChannel_other _ c' c _ fun hc => h (hp.trans (congrArg some hc))

theorem State.share_fallen (cause : FailCause) : (s.fallen x p cause).dc.share = s.dc.share := by
  cases hp : p.channel <;> rw [State.fallen, hp] <;> rfl

theorem Channel.failed_eq (ch : Channel) (cause : FailCause) :
    ch.failed cause = if cause = .removed then ch.Emptied else ch.Offline := by
  cases cause <;> rfl

/-- What the commands of the former channel owe their owners. -/
def endingsOf (s : State) (p : PosRec) : List Task :=
  match p.channel with
  | some c => (s.channel c).endings c
  | none => []

/-- The failure of a position, past its own act: the loss of its target, the failure of the array, and the ends of
the commands of its former channel. -/
theorem State.failPosition_eq (x : Nat) (p : PosRec) (cause : FailCause) {v : State}
    (hv : v = State.loseTargetOf x p (State.latch .memberFailed (s.fallen x p cause))) :
    s.failPosition x p cause = State.laterAll (endingsOf s p ++ [.drained])
      (if v.table.state = .failed ∧ s.table.state ≠ .failed then v.arrayFails else v) := by
  subst hv
  have hendings : (State.failFormer p.channel cause
      { s with table := s.table.setPosition x (PosRec.failedBy cause) }).2 = endingsOf s p := by
    unfold endingsOf
    cases p.channel <;> rfl
  exact congrArg (fun ts => State.laterAll (ts ++ [.drained]) _) hendings

theorem State.loseTargetOf_rebuilding {g : Geometry} (h : p.state = .rebuilding) (hg : s.geom = some g) :
    s.loseTargetOf x p = s.targetLost x g := by
  simp only [State.loseTargetOf, h, hg]

theorem State.loseTargetOf_other (h : p.state ≠ .rebuilding) : s.loseTargetOf x p = s := by
  unfold State.loseTargetOf
  split
  · next hs _ => exact absurd hs h
  · rfl

theorem State.loseTargetOf_keeps (s : State) : (s.loseTargetOf x p).table = s.table ∧
    (s.loseTargetOf x p).dc = s.dc ∧ (s.loseTargetOf x p).cbs = s.cbs := by
  refine ⟨State.loseTargetOf_table x p s, ?_⟩
  unfold State.loseTargetOf
  split
  · exact State.targetLost_keeps s x _
  · exact ⟨rfl, rfl⟩

/-- A failure leaves the table, the channels and the buffer lines as its own act has set them. -/
theorem State.failPosition_keeps (x : Nat) (p : PosRec) (cause : FailCause) (s : State) :
    (s.failPosition x p cause).table = (s.fallen x p cause).table ∧
    (s.failPosition x p cause).dc = (s.fallen x p cause).dc ∧
    (s.failPosition x p cause).cbs = (s.fallen x p cause).cbs := by
  obtain ⟨htable, hdc, hcbs⟩ :=
    State.loseTargetOf_keeps (x := x) (p := p) (State.latch .memberFailed (s.fallen x p cause))
  rw [State.latch_table] at htable
  rw [State.latch_dc] at hdc
  rw [State.latch_cbs] at hcbs
  rw [State.failPosition_eq x p cause rfl, State.laterAll_table, State.laterAll_dc, State.laterAll_cbs]
  split
  · obtain ⟨hdc', hcbs'⟩ := State.arrayFails_keeps
      (State.loseTargetOf x p (State.latch .memberFailed (s.fallen x p cause)))
    exact ⟨(State.arrayFails_table _).trans htable, hdc'.trans hdc, hcbs'.trans hcbs⟩
  · exact ⟨htable, hdc, hcbs⟩

end

/-! ## The ends of the commands of a channel that has failed (R35) -/

/-- What ends a command for its owner is told by its kind. -/
theorem endedFailed_unique {channel : Option Chan}
    {ended : Owner → DriveCmd → List BlockOutcome → List (Nat × Nat) → Task}
    (h : ∀ o cmd outs sh, (∀ notes, cmd.op = .read notes → ended o cmd outs sh = .readDone o cmd channel
        (outs ++ List.replicate (cmd.count - outs.length) (.erased .positionFailed)) sh) ∧
      ∀ bs flags, cmd.op = .write bs flags → ended o cmd outs sh = .writeDone o) :
    ended = fun o cmd outs sh => endedFailed o cmd channel outs sh := by
  funext o cmd outs sh
  obtain ⟨hread, hwrite⟩ := h o cmd outs sh
  cases hop : cmd.op with
  | read notes => rw [hread notes hop, endedFailed, hop]
  | write bs flags => rw [hwrite bs flags hop, endedFailed, hop]

theorem Channel.endings_eq (c : Chan) (ch : Channel) : ch.endings c =
    ((List.finRange 4).flatMap fun i =>
      match ch.slots.get i with
      | some { work := .owned o cmd _ outs _ sh, .. } => [endedFailed o cmd (some c) outs sh]
      | _ => []) ++
    (ch.foreground ++ ch.rebuild).map fun q => endedFailed q.owner q.cmd (some c) [] [] := by
  rw [Channel.endings, Channel.numbered_eq, List.filterMap_map, List.filterMap_eq_flatMap_toList]
  refine congrArg (· ++ _) (List.flatMap_congr fun i _ => ?_)
  rw [Function.comp_apply]
  cases ch.slots.get i with
  | none => rfl
  | some x =>
    obtain ⟨tag, ms, work⟩ := x
    cases work <;> rfl

/-! ## The array fails (R36, R115, R140) -/

theorem State.passArrayFailed_idle {s : State} (h : s.rbc.state = .idle) : s.passArrayFailed = s := if_pos h

theorem State.passArrayFailed_busy {s : State} (h : s.rbc.state ≠ .idle) :
    s.passArrayFailed = State.cutJobs (s.putPass (s.rbc.stopFor .abortedArrayFailed)) := if_neg h

theorem State.waitsForLock_iff (s : State) (q : Requester) : s.waitsForLock q = true ↔
    ∃ tag r, q = .extent tag ∧ s.request tag = some r ∧ r.state = .lockWait := by
  cases q with
  | extent tag => simp [State.waitsForLock, Option.any_eq_true]
  | job k => simp [State.waitsForLock]

/-- Settles O20: the failure's own act sets the table, the channels and the lines, which nothing behind it touches. -/
theorem positionFailureEffects : Obligations.PositionFailureEffects := by
  refine ⟨fun s t x p cause g hp hg ht => ?_, fun s => ⟨State.passArrayFailed_idle, fun hs => ?_, fun hs => ?_⟩,
    fun s kept fails hkept hfails => ?_⟩
  · obtain ⟨htable, hdc, hcbs⟩ := State.failPosition_keeps x p cause s
    have hfallen := State.fallen_cases x p cause s
    have ht' : t.table = s.table.setPosition x (PosRec.failedBy cause) := by rw [ht, htable, hfallen]
    have hcbs' : t.cbs = (s.invalidatePosition x).cbs := by rw [ht, hcbs, hfallen]
    have hchannel : t.channel = (s.fallen x p cause).channel := by
      funext c
      rw [State.channel, State.channel, ht, hdc]
    refine ⟨?_, ?_, fun y hy => ?_, fun c hc => ?_, fun c hc => ?_, ?_, fun i w l => ?_, fun i w => ?_, ?_⟩
    · rw [State.geom_eq_table_geom, ht, State.failPosition_geom]
      exact hg
    · rw [ht', ArrayTable.position_setPosition_same hp]
      rfl
    · rw [ht', ArrayTable.position_setPosition_other hy]
    · rw [hchannel, State.channel_fallen_member hc, Channel.failed_eq]
    · rw [hchannel, State.channel_fallen_other hc]
    · rw [ht, hdc, State.share_fallen]
    · rw [hcbs', State.line_invalidatePosition]
    · rw [hcbs', State.invalidatePosition, State.invalidate, Vec.get_map]
      exact ⟨rfl, by cases w <;> rfl⟩
    · intro u v endings ended hu hlost hkept hended hnone hsome
      have hu' : u = State.latch .memberFailed (s.fallen x p cause) := by
        rw [hu, ht', hcbs', ht, hdc, ← hfallen]
      have hug : u.geom = some g := by
        rw [hu', State.geom_eq_table_geom, State.latch_table, hfallen]
        exact (s.table.setPosition_geom x _).trans hg
      have hv : v = State.loseTargetOf x p (State.latch .memberFailed (s.fallen x p cause)) := by
        rw [← hu']
        cases hs : p.state with
        | rebuilding => rw [hlost hs, State.loseTargetOf_rebuilding hs hug]
        | inService => rw [hkept (by simp [hs]), State.loseTargetOf_other (by simp [hs])]
        | failed => rw [hkept (by simp [hs]), State.loseTargetOf_other (by simp [hs])]
      have hendings : endings = endingsOf s p := by
        cases hc : p.channel with
        | none => rw [hnone hc, endingsOf, hc]
        | some c =>
          rw [hsome c hc, endedFailed_unique hended, endingsOf, hc]
          exact (Channel.endings_eq c _).symm
      have hvtable : v.table = t.table := by
        rw [hv, (State.loseTargetOf_keeps _).1, State.latch_table, ht, htable]
      have hfail := State.failPosition_eq x p cause hv
      rw [← ht, hvtable, ← hendings] at hfail
      exact ⟨fun h => hfail.trans (congrArg _ (if_neg fun hn => h.elim hn.2 fun h' => h' hn.1)),
        fun hb ha => hfail.trans (congrArg _ (if_pos ⟨ha, hb⟩))⟩
  · have hstop : s.rbc.stopFor .abortedArrayFailed =
        { s.rbc with state := .stopping, stopCause := some .abortedArrayFailed } := by
      cases h : s.rbc.state <;> simp_all [PassRecord.stopFor, PassState.working]
    rw [State.passArrayFailed_busy (by rintro h; simp [h] at hs), hstop]
    rfl
  · rw [State.passArrayFailed_busy (by simp [hs]), PassRecord.stopFor, hs]
    rfl
  · have hk : kept = fun q => !s.waitsForLock q := by
      funext q
      rw [Bool.eq_iff_iff, hkept, Bool.not_eq_true', Bool.eq_false_iff, ne_eq, State.waitsForLock_iff]
      push Not
      rfl
    have hf : fails = fun v r => v.failRequest r := by
      funext v r
      obtain ⟨hlock, hdata, hother⟩ := hfails v r
      unfold State.failRequest
      split
      · next h => exact hlock h
      · next h => exact hdata h
      · next h h' => exact hother (by cases hr : r.state <;> simp_all)
    rw [hk, hf]
    rfl

end Sys2Proof.Machine
end

section
/-! SUPPORT. The bytes of frames (R186): fields, the CRC, what a received frame brings, and the frames that the part
sends (O9). -/

namespace Sys2Proof.Machine

/-! ## Numbers in bytes (R186) -/

@[simp] theorem bytesOf_length (n v : Nat) : (bytesOf n v).length = n := by
  induction n with
  | zero => rfl
  | succ n ih => rw [bytesOf, List.length_cons, ih]

theorem foldl_number (bs : List Byte) (a : Nat) :
    bs.foldl (fun acc b => acc * 256 + b.toNat) a = a * 256 ^ bs.length + numberOf bs := by
  induction bs generalizing a with
  | nil => simp [numberOf]
  | cons b bs ih =>
    have hcons : numberOf (b :: bs) = (0 * 256 + b.toNat) * 256 ^ bs.length + numberOf bs := ih _
    rw [List.foldl_cons, ih, hcons, List.length_cons]
    ring

theorem numberOf_bytesOf (n v : Nat) : numberOf (bytesOf n v) = v % 256 ^ n := by
  induction n with
  | zero => simp [bytesOf, numberOf, Nat.mod_one]
  | succ n ih =>
    have hhigh : (BitVec.ofNat 8 (v / 256 ^ n)).toNat = v / 256 ^ n % 256 := rfl
    rw [bytesOf, numberOf, List.foldl_cons, foldl_number, ih, bytesOf_length, hhigh, Nat.mod_pow_succ]
    ring

/-! ## Fields of a body -/

section
variable {n m o v : Nat} (as rest : List Byte)

/-- A field that lies behind a run of bytes is a field of the rest, -/
theorem field_behind (h : as.length ≤ o) : field (as ++ rest) o n = field rest (o - as.length) n := by
  rw [field, field, List.drop_append, List.drop_of_length_le h, List.nil_append]

/-- and one that lies within it is its own. -/
theorem field_within (h : o + n ≤ as.length) : field (as ++ rest) o n = field as o n := by
  rw [field, field, List.drop_append_of_le_length (by omega), List.take_append_of_le_length]
  rw [List.length_drop]
  omega

@[simp] theorem field_skip (h : n ≤ o) : field (bytesOf n v ++ rest) o m = field rest (o - n) m := by
  rw [field_behind _ _ (by simpa using h), bytesOf_length]

@[simp] theorem field_bytesOf (h : v < 256 ^ n) : field (bytesOf n v) 0 n = v := by
  rw [field, List.drop_zero, List.take_of_length_le (by simp), numberOf_bytesOf, Nat.mod_eq_of_lt h]

@[simp] theorem field_first (h : v < 256 ^ n) : field (bytesOf n v ++ rest) 0 n = v := by
  rw [field_within _ _ (by simp), field_bytesOf h]

/-- A field of the entry at place i of a list of entries of k bytes each. -/
theorem field_entry {α : Type} {f : α → List Byte} {k : Nat} (hf : ∀ a, (f a).length = k) (h : o + n ≤ k)
    (es : List α) (i : Nat) (hi : i < es.length) :
    field (es.flatMap f) (k * i + o) n = field (f es[i]) o n := by
  induction es generalizing i with
  | nil => exact absurd hi (Nat.not_lt_zero i)
  | cons e es ih =>
    rw [List.flatMap_cons]
    cases i with
    | zero =>
      rw [Nat.mul_zero, Nat.zero_add]
      exact field_within _ _ (by rw [hf]; exact h)
    | succ i =>
      rw [field_behind _ _ (by rw [hf, Nat.mul_succ]; omega), hf, show k * (i + 1) + o - k = k * i + o by
        rw [Nat.mul_succ]; omega]
      exact ih i (Nat.lt_of_succ_lt_succ hi)

/-- Reading the entries of a list one by one gives the list back. -/
theorem map_range_entries {α : Type} {read : Nat → α} (es : List α) (h : ∀ i (hi : i < es.length), read i = es[i]) :
    (List.range es.length).map read = es :=
  List.ext_getElem (by simp) fun i hi hi' => by rw [List.getElem_map, List.getElem_range, h i hi']

theorem length_flatMap_const {α : Type} {f : α → List Byte} {k : Nat} (hf : ∀ a, (f a).length = k) (es : List α) :
    (es.flatMap f).length = k * es.length := by
  induction es with
  | nil => rfl
  | cons e es ih => rw [List.flatMap_cons, List.length_append, hf, ih, List.length_cons, Nat.mul_succ, Nat.add_comm]

end

/-! ## The bytes of a block -/

/-- The lowest n digits of a number in base 256, put together again. -/
theorem foldr_digits (n v : Nat) :
    ((List.range n).map fun i => v / 256 ^ i % 256).foldr (fun d acc => d + 256 * acc) 0 = v % 256 ^ n := by
  induction n generalizing v with
  | zero => simp [Nat.mod_one]
  | succ n ih =>
    have hdigits : (List.range n).map (fun i => v / 256 ^ (i + 1) % 256) =
        (List.range n).map fun i => v / 256 / 256 ^ i % 256 :=
      List.map_congr_left fun i _ => by rw [Nat.pow_succ', Nat.div_div_eq_div_mul]
    rw [List.range_succ_eq_map, List.map_cons, List.map_map, List.foldr_cons]
    refine (congrArg (fun ds => v / 256 ^ 0 % 256 + 256 * List.foldr _ 0 ds) hdigits).trans ?_
    rw [ih, Nat.pow_zero, Nat.div_one, Nat.pow_succ', Nat.mod_mul]

theorem Block.byte_toNat (b : Block) (i : Nat) : (Block.byte b i).toNat = b.toNat / 256 ^ i % 256 := by
  rw [Block.byte, BitVec.extractLsb'_toNat, Nat.shiftRight_eq_div_pow, Nat.pow_mul]

theorem pow_bytes {n bits : Nat} (h : bits = 8 * n) : 256 ^ n = 2 ^ bits := h ▸ (Nat.pow_mul 2 8 n).symm

theorem blockOf_bytes (b : Block) : blockOf (Block.bytes b) = b := by
  have hdigits : (Block.bytes b).foldr (fun b acc => b.toNat + 256 * acc) 0 = b.toNat % 256 ^ 4096 := by
    rw [← foldr_digits, Block.bytes, List.foldr_map, List.foldr_map]
    simp only [Block.byte_toNat]
  rw [blockOf, hdigits]
  refine BitVec.eq_of_toNat_eq ?_
  have hsize : (256 : Nat) ^ 4096 = 2 ^ blockBits := pow_bytes rfl
  rw [BitVec.toNat_ofNat, hsize, Nat.mod_mod, Nat.mod_eq_of_lt b.isLt]

theorem Block.length_bytes (b : Block) : (Block.bytes b).length = 4096 := by
  rw [Block.bytes, List.length_map, List.length_range]

theorem Block.getElem?_bytes (b : Block) {i : Nat} (hi : i < 4096) :
    (Block.bytes b)[i]? = some (b.extractLsb' (8 * i) 8) := by
  rw [Block.bytes, List.getElem?_map, List.getElem?_range hi]
  rfl

/-! ## The CRC (R186) -/

/-- A bit that equals the highest one of the remainder only shifts it. -/
theorem crcBit_shiftLeft (r : BitVec 16) (k : Nat) : crcBit (r <<< k) (r.getMsbD k) = r <<< (k + 1) := by
  have hmsb : (r <<< k).msb = r.getMsbD k := by
    rw [BitVec.msb_eq_getMsbD_zero, BitVec.getMsbD_shiftLeft, Nat.zero_add]
  rw [crcBit, hmsb, bne_self_eq_false, if_neg Bool.false_ne_true, BitVec.shiftLeft_add]

/-- A byte enters bit by bit, its highest first. -/
theorem crcByte_eq (r : BitVec 16) (b : Byte) :
    crcByte r b = (List.range 8).foldl (fun r i => crcBit r (b.getMsbD i)) r := by
  rw [crcByte, show [7, 6, 5, 4, 3, 2, 1, 0] = (List.range 8).map (7 - ·) from rfl, List.foldl_map]
  exact List.foldl_ext _ _ _ fun r i hi => by simp [BitVec.getMsbD, List.mem_range.1 hi]

theorem crcBit_eq (r : BitVec 16) (b : Bool) : crcBit r b = (r <<< 1) ^^^ (if r.msb = b then 0 else 0x1021) := by
  unfold crcBit
  by_cases h : r.msb = b <;> simp [h]

/-- A byte of the remainder's own highest bits shifts it out. -/
theorem crcByte_shiftLeft {r : BitVec 16} {b : Byte} {k : Nat} (h : ∀ i < 8, b.getMsbD i = r.getMsbD (k + i)) :
    crcByte (r <<< k) b = r <<< (k + 8) := by
  have hstep : ∀ n ≤ 8, (List.range n).foldl (fun r i => crcBit r (b.getMsbD i)) (r <<< k) = r <<< (k + n) := by
    intro n
    induction n with
    | zero => intro; rfl
    | succ n ih =>
      intro hn
      rw [List.range_succ, List.foldl_append, ih (by omega), List.foldl_cons, List.foldl_nil, h n hn]
      exact crcBit_shiftLeft r (k + n)
  rw [crcByte_eq, hstep 8 (Nat.le_refl 8)]

theorem crcOf_append (as bs : List Byte) : crcOf (as ++ bs) = bs.foldl crcByte (crcOf as) := List.foldl_append

/-- A run of bytes that its own remainder closes leaves the remainder 0. -/
theorem crcOf_closed (bs : List Byte) : crcOf (bs ++ bytesOf 2 (crcOf bs).toNat) = 0 := by
  rw [crcOf_append]
  generalize crcOf bs = r
  have hhigh : crcByte (r <<< 0) (BitVec.ofNat 8 (r.toNat / 256 ^ 1)) = r <<< 8 := by
    refine crcByte_shiftLeft fun i hi => ?_
    have hplace : 8 - 1 - i + 8 = 16 - 1 - (0 + i) := by omega
    rw [BitVec.getMsbD, BitVec.getMsbD, BitVec.getLsbD_ofNat, pow_bytes (n := 1) rfl, Nat.testBit_div_two_pow, hplace]
    simp [hi, show i < 16 by omega, BitVec.getLsbD, show 7 - i < 8 by omega]
  have hlow : crcByte (r <<< 8) (BitVec.ofNat 8 (r.toNat / 256 ^ 0)) = r <<< 16 := by
    refine crcByte_shiftLeft fun i hi => ?_
    have hplace : 8 - 1 - i = 16 - 1 - (8 + i) := by omega
    rw [BitVec.getMsbD, BitVec.getMsbD, BitVec.getLsbD_ofNat, Nat.pow_zero, Nat.div_one, ← hplace]
    simp [hi, show 8 + i < 16 by omega, BitVec.getLsbD, show 7 - i < 8 by omega]
  rw [BitVec.shiftLeft_zero] at hhigh
  rw [bytesOf, bytesOf, bytesOf, List.foldl_cons, List.foldl_cons, List.foldl_nil, hhigh, hlow]
  exact BitVec.shiftLeft_eq_zero (Nat.le_refl 16)

/-! ## A frame is received (R186 to R188) -/

section
variable {kind tag code : Nat} {body : List Byte}

theorem frameBytes_eq (kind tag code : Nat) (body : List Byte) : ∃ inner,
    inner = bytesOf 1 kind ++ bytesOf 2 tag ++ bytesOf 1 code ++ bytesOf 2 body.length ++ body ∧
    frameBytes kind tag code body = inner ++ bytesOf 2 (crcOf inner).toNat := ⟨_, rfl, rfl⟩

/-- A well-built frame passes the checks of R187 up to its kind. -/
theorem receive_frameBytes (hk : kind < 256) (ht : tag < 65536) (hc : code < 256) (hb : body.length ≤ Config.maxBody) :
    receive (frameBytes kind tag code body) =
      if kind = 0x01 then receiveRequest tag code body
      else if kind = 0x03 then receiveData tag body
      else .frameDiscarded (.unknownKind tag) := by
  obtain ⟨inner, hinner, hframe⟩ := frameBytes_eq kind tag code body
  have hlength : inner.length = 6 + body.length := by
    rw [hinner]
    simp only [List.length_append, bytesOf_length]
  have hcrc : numberOf (bytesOf 2 (crcOf inner).toNat) = (crcOf inner).toNat := by
    rw [numberOf_bytesOf, Nat.mod_eq_of_lt]
    exact (crcOf inner).isLt
  have hmax : body.length < 65536 := Nat.lt_of_le_of_lt hb (by decide)
  have hsize : (frameBytes kind tag code body).length = inner.length + 2 := by
    rw [hframe, List.length_append, bytesOf_length]
  have htake : (frameBytes kind tag code body).take inner.length = inner := by rw [hframe, List.take_left]
  have hdrop : (frameBytes kind tag code body).drop inner.length = bytesOf 2 (crcOf inner).toNat := by
    rw [hframe, List.drop_left]
  have hbody : inner.drop 6 = body := by rw [hinner]; exact List.drop_left' (by simp)
  have hfields : field (frameBytes kind tag code body) 0 1 = kind ∧ field (frameBytes kind tag code body) 1 2 = tag ∧
      field (frameBytes kind tag code body) 3 1 = code ∧ field (frameBytes kind tag code body) 4 2 = body.length := by
    rw [hframe, hinner]
    simp [hk, ht, hc, hmax]
  obtain ⟨hkind, htag, hcode, hlen⟩ := hfields
  simp only [receive, hsize, Nat.add_sub_cancel, htake, hdrop, hbody, hkind, htag, hcode, hlen, hcrc]
  rw [if_neg (by omega), if_neg (by simp), if_neg (by omega)]

theorem tagOk_iff : tagOk tag = true ↔ 0 < tag ∧ tag < 65536 := by simp [tagOk, inTwo]

/-- A request is received as the command that its code and body are read into. -/
theorem receive_request {i : Instr} (ht : tagOk tag = true) (hc : code < 256) (hb : body.length ≤ Config.maxBody)
    (hread : readRequest tag code body = some i) : receive (frameBytes 0x01 tag code body) = i := by
  obtain ⟨hpos, hlt⟩ := tagOk_iff.1 ht
  rw [receive_frameBytes (by decide) hlt hc hb, if_pos rfl, receiveRequest, if_neg (Nat.ne_of_gt hpos), hread]
  rfl

/-- A request whose body has the length that its code asks for. -/
theorem receive_sized {i i' : Instr} {n : Nat} (hread : readRequest tag code body = sized body n i')
    (ht : tagOk tag = true) (hlen : body.length = n) (hi : i' = i) (hc : code < 256 := by decide)
    (hn : n ≤ Config.maxBody := by decide) : receive (frameBytes 0x01 tag code body) = i :=
  receive_request ht hc (hlen.trans_le hn) (by rw [hread, sized, if_pos hlen, hi])

end

theorem receive_data {tag index : Nat} (block : Option Block) (ht : tag < 65536) (hi : index < 65536) :
    receive (frameBytes 0x03 tag 0 (dataBody index block)) = .data tag index block := by
  cases block with
  | none =>
    have hbody : dataBody index none = bytesOf 2 index ++ bytesOf 1 1 := rfl
    rw [receive_frameBytes (by decide) ht (by decide) (by rw [hbody]; simp [Config.maxBody]), if_neg (by decide),
      if_pos rfl, hbody, receiveData, if_neg (by simp), if_pos (by simp)]
    simp [hi]
  | some b =>
    have hbody : dataBody index (some b) = bytesOf 2 index ++ (bytesOf 1 0 ++ Block.bytes b) := rfl
    have hlength := Block.length_bytes b
    rw [receive_frameBytes (by decide) ht (by decide) (by rw [hbody]; simp [Config.maxBody, hlength]),
      if_neg (by decide), if_pos rfl, hbody, receiveData, if_pos (by simp [hlength]), ← List.append_assoc,
      List.drop_left' (by simp), blockOf_bytes]
    simp [hi]

theorem inByte_iff (n : Nat) : inByte n = true ↔ n < 256 := decide_eq_true_iff

/-! ### The requests with a list -/

theorem entriesOf_bytes {pre : List Byte} (hpre : pre.length = 10) (es : List PositionEntry)
    (h : es.all PositionEntry.wf = true) :
    entriesOf (pre ++ es.flatMap fun e => bytesOf 1 e.state ++ bytesOf 1 e.channel) es.length = es := by
  refine map_range_entries es fun i hi => ?_
  have hwf := List.all_eq_true.1 h es[i] (List.getElem_mem hi)
  simp only [PositionEntry.wf, inByte, Bool.and_eq_true, decide_eq_true_eq] at hwf
  have hfield (o : Nat) (ho : o + 1 ≤ 2) := field_entry (n := 1)
    (f := fun e : PositionEntry => bytesOf 1 e.state ++ bytesOf 1 e.channel) (by simp) ho es i hi
  rw [field_behind _ _ (by omega), field_behind _ _ (by omega), hpre, show 10 + 2 * i - 10 = 2 * i + 0 by omega,
    show 11 + 2 * i - 10 = 2 * i + 1 by omega, hfield 0 (by decide), hfield 1 (by decide)]
  simp [hwf]

theorem positionsOf_bytes (xs : List Nat) (h : xs.all inByte = true) :
    positionsOf (listBytes (bytesOf 1) xs) xs.length = xs := by
  refine map_range_entries xs fun i hi => ?_
  have hwf := List.all_eq_true.1 h xs[i] (List.getElem_mem hi)
  rw [listBytes, field_skip _ (by omega), show 1 + i - 1 = 1 * i + 0 by omega,
    field_entry (by simp) (by decide) xs i hi, field_bytesOf (by simpa [inByte] using hwf)]

theorem extentsOf_bytes (es : List LostExtent) (h : es.all LostExtent.wf = true) :
    extentsOf (listBytes (fun e => bytesOf 1 e.position ++ bytesOf 6 e.first ++ bytesOf 4 e.count) es) es.length =
      es := by
  refine map_range_entries es fun i hi => ?_
  have hwf := List.all_eq_true.1 h es[i] (List.getElem_mem hi)
  simp only [LostExtent.wf, inByte, inSix, inFour, Bool.and_eq_true, decide_eq_true_eq] at hwf
  have hfield (o n : Nat) (ho : o + n ≤ 11) := field_entry (n := n)
    (f := fun e : LostExtent => bytesOf 1 e.position ++ bytesOf 6 e.first ++ bytesOf 4 e.count) (by simp) ho es i hi
  rw [listBytes, field_skip _ (by omega), field_skip _ (by omega), field_skip _ (by omega),
    show 1 + 11 * i - 1 = 11 * i + 0 by omega, show 2 + 11 * i - 1 = 11 * i + 1 by omega,
    show 8 + 11 * i - 1 = 11 * i + 7 by omega, hfield 0 1 (by decide), hfield 1 6 (by decide), hfield 7 4 (by decide)]
  simp [hwf]

theorem readRequest_startRebuild (tag : Nat) (xs : List Nat) (h : xs.all inByte = true) (hl : xs.length < 256) :
    readRequest tag codeStartRebuild (listBytes (bytesOf 1) xs) =
      sized (listBytes (bytesOf 1) xs) (1 + xs.length) (.startRebuild tag xs) := by
  have hcount : field (listBytes (bytesOf 1) xs) 0 1 = xs.length := field_first _ hl
  refine (rfl : _ = sized _ (1 + field _ 0 1) (.startRebuild tag (positionsOf _ (field _ 0 1)))).trans ?_
  rw [hcount, positionsOf_bytes xs h]

theorem readRequest_loadLost (tag : Nat) (es : List LostExtent) (h : es.all LostExtent.wf = true)
    (hl : es.length < 256) {body : List Byte}
    (hb : body = listBytes (fun e => bytesOf 1 e.position ++ bytesOf 6 e.first ++ bytesOf 4 e.count) es) :
    readRequest tag codeLoadLost body = sized body (1 + 11 * es.length) (.loadLost tag es) := by
  have hcount : field body 0 1 = es.length := hb ▸ field_first _ hl
  refine (rfl : _ = sized _ (1 + 11 * field _ 0 1) (.loadLost tag (extentsOf _ (field _ 0 1)))).trans ?_
  rw [hcount, hb, extentsOf_bytes es h]

theorem readDefine_removal (tag : Nat) : readDefine tag (bytesOf 1 0) = some (.defineArray tag 0 0 0 0 []) := rfl

theorem readDefine_array {tag w k b0 stripes : Nat} {es : List PositionEntry} (hw : w < 256) (hk : k < 256)
    (hb0 : b0 < 4294967296) (hs : stripes < 4294967296) (hes : es.all PositionEntry.wf = true) (hl : es.length = w)
    (h0 : w ≠ 0) :
    readDefine tag (bytesOf 1 w ++ bytesOf 1 k ++ bytesOf 4 b0 ++ bytesOf 4 stripes ++
      es.flatMap fun e => bytesOf 1 e.state ++ bytesOf 1 e.channel) = some (.defineArray tag w k b0 stripes es) := by
  have hentries := entriesOf_bytes
    (pre := bytesOf 1 w ++ bytesOf 1 k ++ bytesOf 4 b0 ++ bytesOf 4 stripes) (by simp) es hes
  have hlength : (es.flatMap fun e => bytesOf 1 e.state ++ bytesOf 1 e.channel).length = 2 * es.length :=
    length_flatMap_const (by simp) es
  have hfields : ∀ body, body = bytesOf 1 w ++ bytesOf 1 k ++ bytesOf 4 b0 ++ bytesOf 4 stripes ++
      (es.flatMap fun e => bytesOf 1 e.state ++ bytesOf 1 e.channel) →
      field body 0 1 = w ∧ field body 1 1 = k ∧ field body 2 4 = b0 ∧ field body 6 4 = stripes ∧
        body.length = 10 + 2 * w := by
    rintro body rfl
    refine ⟨by simp [hw], by simp [hk], by simp [hb0], by simp [hs], ?_⟩
    rw [List.length_append, hlength, hl]
    simp
  generalize hbody : bytesOf 1 w ++ bytesOf 1 k ++ bytesOf 4 b0 ++ bytesOf 4 stripes ++
    (es.flatMap fun e => bytesOf 1 e.state ++ bytesOf 1 e.channel) = body at hentries hfields ⊢
  obtain ⟨hw', hk', hb0', hs', hlen⟩ := hfields body rfl
  have hne : body ≠ [] := List.ne_nil_of_length_pos (by omega)
  rw [hl] at hentries
  simp only [readDefine, hw', hk', hb0', hs', hentries, if_neg hne, if_neg h0, sized, if_pos hlen]

/-- Every frame of a host is received as the command it sends. -/
theorem receive_hostFrame {i : Instr} {bytes : List Byte} (hw : i.wf = true) (hf : hostFrame i = some bytes)
    (hd : ∀ tag k b0 stripes es, i = .defineArray tag 0 k b0 stripes es → k = 0 ∧ b0 = 0 ∧ stripes = 0) :
    receive bytes = i := by
  cases i with
  | coldStart | checkpointScanEnd | frameDiscarded | unknownRequest | frameTransmitted | insertion | removal
  | capacityCompletion | probeAllowanceExpiry | readCompletion | writeCompletion | unmatchedCompletion
  | completionDiscarded | commandTimeout | dataWaitExpiry | slotProgramEnd | slotProgramTimeout
  | retireCellProgrammed | eraseEnd | openCellProgrammed | eraseStepTimeout | receivedFrameNotTaken => cases hf
  | identify | pauseRebuild | continueRebuild | abortRebuild | resumeRebuild | readCheckpoint | eraseCheckpoints
  | queryArray | queryPass | queryStore | queryAttention | restart => cases hf; exact receive_sized rfl hw rfl rfl
  | clearAttention => cases hf; exact receive_sized rfl hw rfl rfl
  | failMember | assignSpare | returnMember | guard | addTarget | readExtent | writeExtent | cancel | setShare
  | setChannel | resetChannel | cacheMode | listLost | dropLost | setLostLimit | setInterval | queryChannel | queryBank
  | clearBank | setThreshold =>
    cases hf
    simp only [Instr.wf, Bool.and_eq_true, inByte, inTwo, inFour, inSix, decide_eq_true_eq] at hw
    exact receive_sized rfl (by simp [hw]) (by simp) (by simp [hw])
  | data tag index block =>
    cases hf
    simp only [Instr.wf, Bool.and_eq_true, inTwo, decide_eq_true_eq] at hw
    exact receive_data block hw.1 hw.2
  | startRebuild tag xs =>
    cases hf
    simp only [Instr.wf, Bool.and_eq_true, inByte_iff] at hw
    obtain ⟨⟨ht, hxs⟩, hl⟩ := hw
    exact receive_sized (readRequest_startRebuild tag xs hxs hl) ht
      (by rw [listBytes, List.length_append, length_flatMap_const (k := 1) (by simp)]; simp) rfl (by decide)
      (by simp [Config.maxBody]; omega)
  | loadLost tag es =>
    cases hf
    simp only [Instr.wf, Bool.and_eq_true, inByte_iff] at hw
    obtain ⟨⟨ht, hes⟩, hl⟩ := hw
    exact receive_sized (readRequest_loadLost tag es hes hl rfl) ht
      (by rw [listBytes, List.length_append, length_flatMap_const (k := 11) (by simp)]; simp) rfl (by decide)
      (by simp [Config.maxBody]; omega)
  | defineArray tag w k b0 stripes es =>
    cases hf
    simp only [Instr.wf, Bool.and_eq_true, inByte_iff, inFour, decide_eq_true_eq] at hw
    obtain ⟨⟨⟨⟨⟨⟨ht, hw⟩, hk⟩, hb0⟩, hs⟩, hes⟩, hl⟩ := hw
    by_cases h0 : w = 0
    · subst h0
      obtain ⟨rfl, rfl, rfl⟩ := hd tag k b0 stripes es rfl
      rw [List.length_eq_zero_iff.1 hl]
      exact receive_request ht (by decide) (by decide) (readDefine_removal tag)
    · rw [if_neg h0]
      refine receive_request ht (by decide) ?_ (readDefine_array hw hk hb0 hs hes hl h0)
      rw [List.length_append, length_flatMap_const (k := 2) (by simp)]
      simp [Config.maxBody]
      omega

/-! ## The frames that the part sends (Tables 11-1 and 11-2) -/

theorem framed_unique {framed : Nat → Nat → Nat → List Byte → List Byte}
    (h : ∀ kind tag code body, ∃ inner,
      inner = bytesOf 1 kind ++ bytesOf 2 tag ++ bytesOf 1 code ++ bytesOf 2 body.length ++ body ∧
      framed kind tag code body = inner ++ bytesOf 2 (crcOf inner).toNat) : framed = frameBytes := by
  funext kind tag code body
  obtain ⟨inner, rfl, hframed⟩ := h kind tag code body
  exact hframed

/-! ### Parts of reply bodies -/

theorem optBytes_unique {n : Nat} {number : Nat → Option Nat → List Byte}
    (hsome : ∀ n v, number n (some v) = bytesOf n v) (hnone : ∀ n, number n none = []) :
    number n = optBytes (bytesOf n) := by
  funext v
  cases v with
  | none => exact hnone n
  | some v => exact hsome n v

theorem optBytes_map {α : Type} (f : Nat → List Byte) (g : α → Nat) (v : Option α) :
    optBytes f (v.map g) = optBytes (fun a => f (g a)) v := by
  cases v <;> rfl

/-- The slot, the number and the result of QUERY-STORE's latest record stand together or not at all. -/
theorem optBytes_latest (v : Option (Nat × Nat × PassResult)) :
    optBytes (fun e => bytesOf 1 e.1 ++ bytesOf 4 e.2.1 ++ bytesOf 1 e.2.2.place) v =
      optBytes (bytesOf 1) (v.map fun e => e.1) ++ optBytes (bytesOf 4) (v.map fun e => e.2.1) ++
        optBytes (bytesOf 1) (v.map fun e => e.2.2.place) := by
  cases v <;> rfl

theorem kindBytes_unique {kind : List Byte} {k : Option ErrorKind}
    (hnone : k = none → kind = [0x00, 0x00]) (hcapacity : k = some .capacity → kind = [0x01, 0x00])
    (hread : k = some .read → kind = [0x01, 0x01]) (hwrite : k = some .write → kind = [0x01, 0x02])
    (hlookup : k = some .lookup → kind = [0x01, 0x03]) (hprogram : k = some .slotProgram → kind = [0x01, 0x04])
    (herase : k = some .eraseCycle → kind = [0x01, 0x05]) (hframe : ∀ b, k = some (.frame b) → kind = [0x02, b])
    (hrequest : ∀ code, k = some (.request code) → kind = [0x03] ++ bytesOf 1 code) : kind = kindBytes k := by
  cases k with
  | none => exact hnone rfl
  | some k =>
    cases k with
    | capacity => exact hcapacity rfl
    | read => exact hread rfl
    | write => exact hwrite rfl
    | lookup => exact hlookup rfl
    | slotProgram => exact hprogram rfl
    | eraseCycle => exact herase rfl
    | frame b => exact hframe b rfl
    | request code => exact hrequest code rfl

theorem ownerBytes_unique {owner : List Byte} {o : Option ErrorOwner}
    (hnone : o = none → owner = [0x00] ++ bytesOf 4 0)
    (hrequest : ∀ tag, o = some (.request tag) → owner = [0x01] ++ bytesOf 4 tag)
    (hposition : ∀ k, o = some (.passPosition k) → owner = [0x02] ++ bytesOf 4 k)
    (hnumber : ∀ n, o = some (.passNumber n) → owner = [0x03] ++ bytesOf 4 n) : owner = ownerBytes o := by
  cases o with
  | none => exact hnone rfl
  | some o =>
    cases o with
    | request tag => exact hrequest tag rfl
    | passPosition k => exact hposition k rfl
    | passNumber n => exact hnumber n rfl

theorem identityBytes_eq : identityBytes =
    [7, 0x4B, 0x45, 0x53, 0x54, 0x52, 0x55, 0x4D] ++
      [12, 0x45, 0x4C, 0x53, 0x41, 0x52, 0x45, 0x54, 0x20, 0x32, 0x36, 0x34, 0x30] ++
      bytesOf 1 Config.revision ++
        [12, 11, 32, 48, 8, 4, 0x02, 0x00, 0x01, 0x00, 64, 15, 8, 0x10, 0x05, 0x01, 0x00] := by
  decide

/-- Settles O9: a frame received gives its fields back one by one, and its own remainder shifts the CRC out. -/
theorem linkFrames : Obligations.LinkFrames := by
  refine ⟨fun i bytes hw hf hd => receive_hostFrame hw hf hd,
    fun n v => ⟨bytesOf_length n v, numberOf_bytesOf n v⟩,
    ⟨rfl, fun bs b => ?_, crcOf_closed⟩, fun framed hframed => ?_, by decide, ?_⟩
  · rw [crcOf_append, List.foldl_cons, List.foldl_nil, crcByte_eq]
    simp only [crcBit_eq]
  · rw [framed_unique hframed]
    exact ⟨fun _ _ _ => rfl, fun _ _ => rfl,
      fun _ _ b => ⟨Block.bytes b, rfl, Block.length_bytes b, fun _ hi => Block.getElem?_bytes b hi⟩,
      fun _ _ _ _ => rfl, fun _ _ => rfl⟩
  · intro flag number geometry targets hflag hsome hnone hgeometry htargets
    obtain rfl : flag = flagByte := funext hflag
    obtain rfl : geometry = Geometry.bytes := funext hgeometry
    obtain rfl : targets = listBytes Target.bytes := funext htargets
    obtain rfl : number = fun n => optBytes (bytesOf n) := funext fun n => optBytes_unique hsome hnone
    refine ⟨rfl, identityBytes_eq, fun _ _ _ => rfl, fun _ _ _ _ _ _ _ _ => ⟨rfl, rfl, rfl, rfl, rfl, rfl, rfl, rfl⟩,
      fun _ _ _ _ => rfl, fun _ _ _ => rfl, fun _ _ => ⟨rfl, rfl⟩, rfl, fun _ _ => rfl, fun _ _ => ?_, fun _ _ d => ?_,
      fun r => ?_, fun _ => rfl, fun r => ?_, fun _ _ _ => rfl, ?_⟩
    · exact List.append_nil _
    · simp only [optBytes_map]
      rfl
    · simp only [optBytes_map]
      rfl
    · rw [ReplyBody.bytes, StoreReport.bytes, optBytes_latest]
      simp only [List.append_assoc]
    · intro b isChannel owner kind e k0 k1 k2 k3 k4 k5 k6 k7 k8 o0 o1 o2 o3
      refine ⟨(b.record.map ErrorFields.bytes).getD clearedRecordBytes, rfl, fun hr => ?_, fun hr => ?_⟩
      · rw [hr]
        decide
      · rw [hr, kindBytes_unique k0 k1 k2 k3 k4 k5 k6 k7 k8, ownerBytes_unique o0 o1 o2 o3]
        rfl

end Sys2Proof.Machine
end

section
/-! SUPPORT. START-REBUILD and RESUME-REBUILD, accepted and refused (R130, R135; O22). -/

namespace Sys2Proof.Machine

section
variable {s : State} {tag : Nat}

/-! ## The checks of START-REBUILD (R130) -/

theorem State.beyondWidth_iff (x : Nat) :
    s.beyondWidth x = true ↔ ∃ d, s.table.definition = some d ∧ d.geom.w ≤ x := by
  cases h : s.table.definition with
  | none => simp [State.beyondWidth, h]
  | some d => simp [State.beyondWidth, h]

theorem ArrayTable.takeable_eq_false_iff {t : ArrayTable} (x : Nat) : t.takeable x = false ↔
    ∀ p, t.position x = some p → p.state ≠ .failed ∨ p.spare = none := by
  cases h : t.position x with
  | none => simp [ArrayTable.takeable, h]
  | some p => simp [ArrayTable.takeable, h, ← imp_iff_not_or]

theorem State.geom_of_definition {d : ArrayDef} (h : s.table.definition = some d) :
    s.geom = some d.geom := by
  rw [State.geom, h]
  rfl

/-- The names of START-REBUILD that are refused BAD-VALUE. -/
def State.NamesBadly (s : State) (xs : List Nat) : Prop :=
  (xs.length ≠ 1 ∧ xs.length ≠ 2) ∨ (∃ d, s.table.definition = some d ∧ ∃ x ∈ xs, d.geom.w ≤ x) ∨ ¬xs.Nodup

theorem State.namesBadly_iff (xs : List Nat) :
    (!([1, 2].contains xs.length) || xs.any s.beyondWidth || namesTwice xs) = true ↔ s.NamesBadly xs := by
  have hwidth : (∃ x ∈ xs, s.beyondWidth x = true) ↔ ∃ d, s.table.definition = some d ∧ ∃ x ∈ xs, d.geom.w ≤ x := by
    simp only [State.beyondWidth_iff]
    exact ⟨fun ⟨x, hx, d, hd, hw⟩ => ⟨d, hd, x, hx, hw⟩, fun ⟨d, hd, x, hx, hw⟩ => ⟨x, hx, d, hd, hw⟩⟩
  rw [State.NamesBadly, ← hwidth, Bool.or_eq_true, Bool.or_eq_true, namesTwice_eq_true_iff, List.any_eq_true, or_assoc]
  simp

theorem State.startRefusal_badly {xs : List Nat} (h : s.NamesBadly xs) : s.startRefusal xs = some .badValue :=
  if_pos ((State.namesBadly_iff xs).2 h)

/-- Names that are well go through the other checks. -/
theorem State.startRefusal_well {xs : List Nat} (h : ¬s.NamesBadly xs) : s.startRefusal xs =
    if s.rbc.state ≠ .idle then some .wrongState
    else if s.table.definition.isNone then some .notDefined
    else if s.table.state = .failed then some .wrongState
    else if xs.any fun x => !s.table.takeable x then some .wrongState
    else none :=
  if_neg fun hb => h ((State.namesBadly_iff xs).1 hb)

theorem State.any_untakeable_iff (xs : List Nat) : (xs.any fun x => !s.table.takeable x) = true ↔
    ∃ x ∈ xs, ∀ p, s.table.position x = some p → p.state ≠ .failed ∨ p.spare = none := by
  simp only [List.any_eq_true, Bool.not_eq_true', ArrayTable.takeable_eq_false_iff]

theorem State.startRefusal_none {xs : List Nat} (h : ¬s.NamesBadly xs) (hi : s.rbc.state = .idle)
    (hd : s.table.definition ≠ none) (ha : s.table.state ≠ .failed)
    (hx : ∀ x ∈ xs, ∃ p, s.table.position x = some p ∧ p.state = .failed ∧ p.spare ≠ none) :
    s.startRefusal xs = none := by
  have htake : ¬(xs.any fun x => !s.table.takeable x) = true := fun hany => by
    obtain ⟨x, hmem, hno⟩ := (State.any_untakeable_iff xs).1 hany
    obtain ⟨p, hp, hf, hs⟩ := hx x hmem
    exact (hno p hp).elim (fun h => h hf) hs
  rw [State.startRefusal_well h, if_neg (by simp [hi]), if_neg (by simpa using hd), if_neg ha, if_neg htake]

/-! ## The targets of a pass that starts (R118) -/

/-- The entry of a target at a position, while it has a spare. -/
def ArrayTable.targetAt (t : ArrayTable) (start x : Nat) : Option Target :=
  ((t.position x).bind fun p => p.spare).map fun c => { position := x, channel := c, start := start, state := .active }

theorem ArrayTable.targetAt_eq {t : ArrayTable} {x : Nat} {p : PosRec} {c : Chan} (hp : t.position x = some p)
    (hc : p.spare = some c) (start : Nat) :
    t.targetAt start x = some { position := x, channel := c, start := start, state := .active } := by
  rw [ArrayTable.targetAt, hp, Option.bind_some, hc, Option.map_some]

/-- Whatever the order of the names, the targets stand in ascending position. -/
theorem ArrayTable.targetsOf_eq (t : ArrayTable) (start : Nat) {w : Nat} {xs ys : List Nat} (hasc : ys.Pairwise (· < ·))
    (hw : ∀ y ∈ ys, y < w) (hmem : ∀ x, x ∈ xs ↔ x ∈ ys) :
    t.targetsOf w start xs = ys.filterMap (t.targetAt start) := by
  have hfilter : (List.range w).filter xs.contains = ys :=
    (List.pairwise_lt_range.filter _).eq_of_mem_iff hasc fun x => by
      simp only [List.mem_filter, List.mem_range, List.contains_iff_mem, hmem]
      exact ⟨And.right, fun h => ⟨hw x h, h⟩⟩
  exact congrArg (List.filterMap (t.targetAt start)) hfilter

/-! ## START-REBUILD (R130) -/

theorem exec_startRebuild (h : s.Open tag) (xs : List Nat) :
    exec (.startRebuild tag xs) s = .next (s.takeStart tag xs).settle :=
  congrArg (fun u : State => Host.Outcome.next u.settle) (State.route_free h _ (by decide) _ _)

theorem State.takeStart_refused {xs : List Nat} {status : Status} (h : s.startRefusal xs = some status) :
    s.takeStart tag xs = s.reply tag status .empty := by
  simp only [State.takeStart, h]
  rfl

theorem State.takeStart_accepted {xs : List Nat} {g : Geometry} (h : s.startRefusal xs = none) (hg : s.geom = some g) :
    s.takeStart tag xs = s.beginPass tag g xs := by
  simp only [State.takeStart, h, hg]

/-- START-REBUILD, accepted: the targets become REBUILDING, and a record, the reply and the jobs follow. -/
theorem exec_startRebuild_accepted (ho : s.Open tag) {xs : List Nat} {d : ArrayDef} {ts : List Target}
    (hr : s.startRefusal xs = none) (hd : s.table.definition = some d) (hts : s.table.targetsOf d.geom.w 0 xs = ts) :
    exec (.startRebuild tag xs) s = .next (State.settle (State.later .startJobs (State.reply tag .ok .empty
      (State.handProgress (State.rebuildPositions (ts.map fun t => t.position)
        { s with rbc := PassRecord.starting s.cps.nextNumber ts 0 d.geom.s }))))) := by
  rw [exec_startRebuild ho, State.takeStart_accepted hr (State.geom_of_definition hd), State.beginPass, hts]
  rfl

theorem State.rebuildPosition_some {x : Nat} {p : PosRec} (h : s.table.position x = some p) :
    s.rebuildPosition x = State.invalidatePosition x
      { s with table := s.table.setPosition x { p with state := .rebuilding, channel := p.spare, spare := none } } := by
  simp only [State.rebuildPosition, h]

theorem starting_unique {d : ArrayDef} {fresh : List Target → PassRecord}
    (h : ∀ ts, fresh ts = { state := .running,
                            number := match s.cps.latest with
                              | some (_, r) => if r.number = 4294967295 then 1 else r.number + 1
                              | none => 1
                            targets := ts, doneTargets := [], f := 0, n := 0, e := d.geom.s, stopCause := none,
                            lastResult := .none, rowsReconstructed := 0, rowsUnrecoverable := 0, repairs := 0,
                            window := [] }) :
    fresh = fun ts => PassRecord.starting s.cps.nextNumber ts 0 d.geom.s := by
  funext ts
  rw [h, CheckpointStore.nextNumber]
  cases s.cps.latest <;> rfl

/-! ## RESUME-REBUILD (R135) -/

theorem exec_resumeRebuild (h : s.Open tag) : exec (.resumeRebuild tag) s = .next (s.takeResume tag).settle :=
  congrArg (fun u : State => Host.Outcome.next u.settle) (State.route_free h _ (by decide) _ _)

theorem State.takeResume_refused {status : Status} (h : s.resumeCheck = .inl status) :
    s.takeResume tag = s.reply tag status .empty := by
  simp only [State.takeResume, h]
  rfl

theorem State.takeResume_accepted {r : CheckpointRecord} (h : s.resumeCheck = .inr r) :
    s.takeResume tag = s.resumePass tag r := by
  simp only [State.takeResume, h]

theorem ArrayTable.matchesTarget_eq_false_iff {t : ArrayTable} (a : Target) : t.matchesTarget a = false ↔
    ∀ p, t.position a.position = some p → p.state ≠ .failed ∨ p.spare ≠ some a.channel := by
  cases h : t.position a.position with
  | none => simp [ArrayTable.matchesTarget, h]
  | some p => simp [ArrayTable.matchesTarget, h, ← imp_iff_not_or]

theorem State.any_mismatch_iff (ts : List Target) :
    ((ts.filter Target.active).any fun a => !s.table.matchesTarget a) = true ↔ ∃ a ∈ ts, a.state = .active ∧
      ∀ p, s.table.position a.position = some p → p.state ≠ .failed ∨ p.spare ≠ some a.channel := by
  simp [List.any_eq_true, ArrayTable.matchesTarget_eq_false_iff, Target.active]

theorem State.resumeCheck_undefined (hi : s.rbc.state = .idle) (hd : s.table.definition = none) :
    s.resumeCheck = .inl .notDefined := by
  have hgeom : s.geom = none := by rw [State.geom, hd]; rfl
  rw [State.resumeCheck, if_neg (by simp [hi]), hgeom]

section
variable {d : ArrayDef} (hi : s.rbc.state = .idle) (hd : s.table.definition = some d)
include hi hd

theorem State.resumeCheck_failed (ha : s.table.state = .failed) : s.resumeCheck = .inl .wrongState := by
  rw [State.resumeCheck, if_neg (by simp [hi]), State.geom_of_definition hd]
  exact if_pos ha

theorem State.resumeCheck_blank (ha : s.table.state ≠ .failed) (hl : s.cps.latest = none) :
    s.resumeCheck = .inl .noResume := by
  rw [State.resumeCheck, if_neg (by simp [hi]), State.geom_of_definition hd, hl]
  exact if_neg ha

/-- The checks of the latest record. -/
theorem State.resumeCheck_latest (ha : s.table.state ≠ .failed) {i : Fin 64} {r : CheckpointRecord}
    (hl : s.cps.latest = some (i, r)) : s.resumeCheck =
      if r.result ≠ .none then .inl .noResume
      else if r.geom ≠ d.geom then .inl .mismatch
      else if (r.targets.filter Target.active).any fun a => !s.table.matchesTarget a then .inl .mismatch
      else .inr r := by
  rw [State.resumeCheck, if_neg (by simp [hi]), State.geom_of_definition hd, hl]
  exact if_neg ha

end

end

/-- Settles O22: the checks in their order, and the targets in ascending position whatever the order of the names. -/
theorem passBegins : Obligations.PassBegins := by
  refine ⟨fun s tag x d p c fresh ho hi hd ha hx hp hf hs hfresh => ?_,
    fun s tag d i r ho hi hd ha hl hr hg ht => ?_, fun s tag status ho hag => ⟨fun xs bad hbad h => ?_, fun h => ?_⟩⟩
  · obtain rfl := starting_unique hfresh
    rw [← ArrayTable.position_of_definition hd] at hp
    have hdef : s.table.definition ≠ none := by simp [hd]
    refine ⟨?_, fun y p' c' xs hxy hy hp' hf' hs' hxs => ?_⟩
    · have hwell : ¬s.NamesBadly [x] := by simp [State.NamesBadly, hd, hx]
      have hfree := State.startRefusal_none hwell hi hdef ha (by simp [hp, hf, hs])
      have htargets := s.table.targetsOf_eq 0 (xs := [x]) (ys := [x]) (List.pairwise_singleton _ _) (w := d.geom.w)
        (by simpa using hx) fun _ => Iff.rfl
      rw [List.filterMap_cons_some (ArrayTable.targetAt_eq hp hs 0), List.filterMap_nil] at htargets
      have hset : s.table.setPosition x { p with state := .rebuilding, channel := p.spare, spare := none } =
          { definition := some { d with
            positions := d.positions.set x { p with state := .rebuilding, channel := some c, spare := none } } } := by
        simp only [ArrayTable.setPosition, hd, hs]
      rw [exec_startRebuild_accepted ho hfree hd htargets, ← hset]
      exact congrArg (fun u : State => Host.Outcome.next
        (State.later .startJobs (State.reply tag .ok .empty u.handProgress)).settle) (State.rebuildPosition_some hp)
    · rw [← ArrayTable.position_of_definition hd] at hp'
      have hmem : ∀ z, z ∈ xs ↔ z ∈ [x, y] := by
        rcases hxs with rfl | rfl
        · exact fun _ => Iff.rfl
        · simp [or_comm]
      have hwell : ¬s.NamesBadly xs := by
        rcases hxs with rfl | rfl <;> simp [State.NamesBadly, hd, hx, hy, Nat.ne_of_lt hxy, Nat.ne_of_gt hxy]
      have hfree := State.startRefusal_none hwell hi hdef ha (by simp [hmem, hp, hf, hs, hp', hf', hs'])
      have htargets := s.table.targetsOf_eq 0 (ys := [x, y]) (by simpa using hxy) (w := d.geom.w)
        (by simp [hx, hy]) hmem
      rw [List.filterMap_cons_some (ArrayTable.targetAt_eq hp hs 0),
        List.filterMap_cons_some (ArrayTable.targetAt_eq hp' hs' 0), List.filterMap_nil] at htargets
      rw [exec_startRebuild_accepted ho hfree hd htargets]
      simp only [State.rebuildPositions, List.map_cons, List.map_nil, List.foldl_cons, List.foldl_nil]
  · have hmatch : ¬((r.targets.filter Target.active).any fun a => !s.table.matchesTarget a) = true := fun hany => by
      obtain ⟨a, hmem, hact, hno⟩ := (State.any_mismatch_iff r.targets).1 hany
      obtain ⟨p, hp, hf, hs⟩ := ht a hmem hact
      exact (hno p hp).elim (fun h => h hf) fun h => h hs
    have hcheck : s.resumeCheck = .inr r := by
      rw [State.resumeCheck_latest hi hd ha hl, if_neg (by simp [hr]), if_neg (by simp [hg]), if_neg hmatch]
    rw [exec_resumeRebuild ho, State.takeResume_accepted hcheck]
    rfl
  · rw [exec_startRebuild ho, State.takeStart_refused (status := status)]
    · exact congrArg _ (State.settle_idle _ (by simpa using hag))
    · have hiff : bad ↔ s.NamesBadly xs := hbad
      rcases h with ⟨hb, rfl⟩ | ⟨hb, h⟩
      · exact State.startRefusal_badly (hiff.1 hb)
      · rw [State.startRefusal_well (mt hiff.2 hb)]
        rcases h with ⟨hi, rfl⟩ | ⟨hi, hd, rfl⟩ | ⟨hi, hd, rfl, h⟩
        · exact if_pos hi
        · rw [if_neg (by simp [hi]), if_pos (by simp [hd])]
        · rw [if_neg (by simp [hi]), if_neg (by simpa using hd)]
          rcases h with ha | hx
          · exact if_pos ha
          · rw [if_pos ((State.any_untakeable_iff xs).2 hx), ite_self]
  · rw [exec_resumeRebuild ho, State.takeResume_refused (status := status)]
    · exact congrArg _ (State.settle_idle _ (by simpa using hag))
    · rcases h with ⟨hi, rfl⟩ | ⟨hi, ⟨hd, rfl⟩ | ⟨d, hd, ⟨ha, rfl⟩ |
        ⟨ha, ⟨hl | ⟨i, r, hl, hr⟩, rfl⟩ | ⟨i, r, hl, hr, rfl, h⟩⟩⟩⟩
      · exact if_pos hi
      · exact State.resumeCheck_undefined hi hd
      · exact State.resumeCheck_failed hi hd ha
      · exact State.resumeCheck_blank hi hd ha hl
      · rw [State.resumeCheck_latest hi hd ha hl, if_pos hr]
      · rw [State.resumeCheck_latest hi hd ha hl, if_neg (by simp [hr])]
        rcases h with hg | hmatch
        · exact if_pos hg
        · rw [if_pos ((State.any_mismatch_iff r.targets).2 hmatch), ite_self]

end Sys2Proof.Machine
end

section
/-! SUPPORT. What each unit of work does that an event sets off (log 4; O47). -/

namespace Sys2Proof.Machine

/-! ## A fresh tag (R48) -/

/-- The tag that is tried in place k, from v on. -/
def tagTried (v k : Nat) : Nat := if k = 0 then v else (v + k) % 65536

theorem tagTried_step (v k : Nat) : tagTried ((v + 1) % 65536) k = tagTried v (k + 1) := by
  simp only [tagTried]
  split
  · next h => subst h; rfl
  · rw [if_neg (Nat.succ_ne_zero k)]
    omega

theorem tagTried_injective {v j k : Nat} (hj : j ≤ 4) (hk : k ≤ 4) (h : tagTried v j = tagTried v k) : j = k := by
  simp only [tagTried] at h
  split at h <;> split at h <;> omega

/-- A tag in use is taken only where every tag tried is in use. -/
theorem tagTried_mem_of_skipTags_mem {used : List Nat} {n v : Nat} (h : skipTags used n v ∈ used) :
    ∀ k ≤ n, tagTried v k ∈ used := by
  induction n generalizing v with
  | zero => exact fun k hk => Nat.le_zero.1 hk ▸ h
  | succ n ih =>
    rw [skipTags] at h
    split at h
    · next hv =>
      intro k hk
      cases k with
      | zero => exact List.contains_iff_mem.1 hv
      | succ k => exact tagTried_step v k ▸ ih h k (Nat.le_of_succ_le_succ hk)
    · next hv => exact absurd (List.contains_iff_mem.2 h) hv

theorem skipTags_not_mem {used : List Nat} (hl : used.length ≤ 4) (v : Nat) : skipTags used 4 v ∉ used := fun h => by
  have hnodup : ((List.range 5).map (tagTried v)).Nodup :=
    List.nodup_range.map_on fun j hj k hk hjk =>
      tagTried_injective (Nat.le_of_lt_succ (List.mem_range.1 hj)) (Nat.le_of_lt_succ (List.mem_range.1 hk)) hjk
  have hsub : (List.range 5).map (tagTried v) ⊆ used := fun t ht => by
    obtain ⟨k, hk, rfl⟩ := List.mem_map.1 ht
    exact tagTried_mem_of_skipTags_mem h k (Nat.le_of_lt_succ (List.mem_range.1 hk))
  have hle := (List.subperm_of_subset hnodup hsub).length_le
  rw [List.length_map, List.length_range] at hle
  omega

theorem skipTags_unused {used : List Nat} {n v : Nat} (h : v ∉ used) : skipTags used n v = v := by
  cases n with
  | zero => rfl
  | succ n => exact if_neg fun hv => h (List.contains_iff_mem.1 hv)

section
variable {ch : Channel} {i : Fin 4}

theorem Channel.mem_tagsOut {tag : Nat} :
    tag ∈ ch.tagsOut ↔ ∃ j x, ch.slots.get j = some x ∧ x.tag = tag := by
  simp [Channel.tagsOut, Channel.numbered_eq, Option.map_eq_some_iff]

theorem Channel.length_tagsOut (ch : Channel) : ch.tagsOut.length ≤ 4 :=
  List.length_filterMap_le _ _

/-- The tags out besides slot i's. -/
theorem Channel.mem_tagsOut_cleared {tag : Nat} : tag ∈ (ch.putSlot i none).tagsOut ↔
    ∃ j x, j ≠ i ∧ ch.slots.get j = some x ∧ x.tag = tag := by
  rw [Channel.mem_tagsOut]
  refine exists_congr fun j => exists_congr fun x => ?_
  by_cases hj : j = i
  · simp [hj, Channel.putSlot]
  · simp [hj, Channel.putSlot, Vec.get_set_other _ _ _ _ (Ne.symm hj)]

end

/-! ## A READ goes on (R53, R54) -/

section
variable {s : State} {c : Chan} {i : Fin 4}

theorem State.continueRead_empty (h : (s.channel c).slots.get i = none) : s.continueRead c i = s := by
  simp only [State.continueRead, h]

section
variable {tag ms next reissues : Nat} {o : Owner} {cmd : DriveCmd} {outs : List BlockOutcome} {sh : List (Nat × Nat)}
  (h : (s.channel c).slots.get i = some { tag := tag, allowance := ms, work := .owned o cmd next outs reissues sh })
include h

theorem State.continueRead_done (hn : cmd.first + cmd.count ≤ next) :
    s.continueRead c i = State.later (.readDone o cmd (some c) outs sh) (s.freeSlot c i) := by
  simp only [State.continueRead, h]
  exact if_pos (Nat.sub_eq_zero_of_le hn)

theorem State.continueRead_reissue (hn : next < cmd.first + cmd.count) {fresh : Nat}
    (hf : fresh = ((s.channel c).putSlot i none).nextTag) : s.continueRead c i =
      s.putChannel c { s.channel c with
        slots := (s.channel c).slots.set i (some { tag := fresh, allowance := (s.channel c).timeout
                                                   work := .owned o cmd next outs (reissues + 1) sh })
        tagCounter := (fresh + 1) % 65536 } := by
  simp only [State.continueRead, h]
  rw [DriveCmd.remaining, if_neg (Nat.sub_ne_zero_of_lt hn), hf, Channel.send]
  simp [Channel.putSlot]

end

/-! ## Slots and arbiters (R49, R50) -/

theorem State.runArbiter_ready (h : (s.channel c).state = .ready) :
    s.runArbiter c = s.putChannel c ((s.channel c).arbitrate s.dc.share 4) := if_pos h

theorem State.runArbiter_other (h : (s.channel c).state ≠ .ready) : s.runArbiter c = s := if_neg h

theorem State.handCommand_ready {o : Owner} {cmd : DriveCmd} {p : PosRec} (hp : s.table.position cmd.position = some p)
    (hc : p.channel = some c) (h : (s.channel c).state = .ready) : s.handCommand o cmd =
      s.putChannel c (((s.channel c).enqueue o cmd).arbitrate s.dc.share 4) := by
  have hready : ((s.channel c).enqueue o cmd).state = .ready := by cases o <;> exact h
  have hbind : ((s.table.position cmd.position).bind fun p => p.channel) = some c := by rw [hp]; exact hc
  simp only [State.handCommand, hbind]
  rw [if_pos h, State.runArbiter_ready (by rw [State.channel_putChannel_same]; exact hready),
    State.channel_putChannel_same]
  simp [State.putChannel]

theorem State.handCommand_ended {o : Owner} {cmd : DriveCmd}
    (h : ∀ p c, s.table.position cmd.position = some p → p.channel = some c → (s.channel c).state ≠ .ready) :
    s.handCommand o cmd = s.later (endedFailed o cmd none [] []) := by
  unfold State.handCommand
  split
  · next c hc =>
    obtain ⟨p, hp, hpc⟩ := Option.bind_eq_some_iff.1 hc
    exact if_neg (h p c hp hpc)
  · rfl

end

/-! ## An outcome reaches its owner (R54, R115, R139) -/

theorem State.fillBlock_cases (c : Chan) (x m : Nat) (b : Block) (note : Option Way) (sh : List (Nat × Nat))
    (s : State) : ∃ cbs, s.fillBlock c x m b note sh = { s with cbs := cbs } := by
  unfold State.fillBlock
  split
  · split
    · exact ⟨_, rfl⟩
    · exact ⟨s.cbs, rfl⟩
  · exact ⟨s.cbs, rfl⟩

/-- Fills touch the buffer store alone. -/
theorem State.fillAll_cases (c : Chan) (x : Nat) (notes : List RefetchNote) (sh : List (Nat × Nat)) (m : Nat)
    (outs : List BlockOutcome) (s : State) : ∃ cbs, s.fillAll c x notes sh m outs = { s with cbs := cbs } := by
  fun_induction State.fillAll with
  | case1 m s => exact ⟨s.cbs, rfl⟩
  | case2 m b rest s note ih =>
    obtain ⟨cbs, h⟩ := ih
    obtain ⟨cbs', h'⟩ := State.fillBlock_cases c x m b note sh s
    exact ⟨cbs, h.trans (by rw [h'])⟩
  | case3 m e rest s ih => exact ih

theorem outcomeCells_eq (x row : Nat) (outs : List BlockOutcome) : outcomeCells x row outs =
    (List.range outs.length).zipWith (fun n e => { position := x, row := row + n, outcome := e }) outs :=
  (List.map_zip_eq_zipWith).trans rfl

/-- The cells that the outcome of a READ from a row on leaves, each by its place. -/
def cellsOf (x row : Nat) (outs : List BlockOutcome) : List Cell :=
  (List.range outs.length).zipWith (fun n e => { position := x, row := row + n, outcome := e }) outs

section
variable {s : State}

theorem State.segmentRead_some {tag : Nat} {r : ExtentReq} {g : Geometry} (hr : s.request tag = some r)
    (hg : s.geom = some g) (cmd : DriveCmd) (outs : List BlockOutcome) : s.segmentRead tag cmd outs =
      State.later (.segment tag) (s.putRequest { r with
        outstanding := r.outstanding - 1
        work := { r.work with
          cells := if r.endPending = some .arrayFailed then r.work.cells
            else r.work.cells ++ cellsOf cmd.position (g.memberRow cmd.first) outs } }) := by
  simp only [State.segmentRead, hr, hg, cellsOf, outcomeCells_eq]

theorem State.segmentWritten_some {tag : Nat} {r : ExtentReq} (hr : s.request tag = some r) :
    s.segmentWritten tag = State.later (.segment tag) (s.putRequest { r with outstanding := r.outstanding - 1 }) := by
  simp only [State.segmentWritten, hr]

theorem State.jobRead_some {k : Nat} {j : Job} {g : Geometry} (hj : s.jobOf k = some j) (hg : s.geom = some g)
    (cmd : DriveCmd) (outs : List BlockOutcome) : s.jobRead k cmd outs = State.later (.job k) (s.putJob { j with
      outstanding := j.outstanding - 1
      cells := if j.cutShort = true then j.cells
        else j.cells ++ cellsOf cmd.position (g.memberRow cmd.first) outs }) := by
  simp only [State.jobRead, hj, hg, cellsOf, outcomeCells_eq]

theorem State.jobWritten_some {k : Nat} {j : Job} (hj : s.jobOf k = some j) :
    s.jobWritten k = State.later (.job k) (s.putJob { j with outstanding := j.outstanding - 1 }) := by
  simp only [State.jobWritten, hj]

end

/-! ## A grant (R101) -/

theorem State.grantRequest_write {s : State} {tag : Nat} {r : ExtentReq} {g : Geometry} (hr : s.request tag = some r)
    (hg : s.geom = some g) (hk : r.kind = .write) :
    s.grantRequest tag = if r.state = .lockWait then s.startWrite r g else s := by
  simp only [State.grantRequest, hr, hg, hk]

theorem Geometry.segFirst_eq_max {g : Geometry} (hb : 0 < g.stripeBlocks) (first i : Nat) :
    g.segFirst first i = max first ((g.stripeOf first + i) * g.stripeBlocks) := by
  cases i with
  | zero => exact (max_eq_left (g.stripe_le_segFirst first 0)).symm
  | succ i =>
    have hle := Geometry.first_le_segFirst hb first (i + 1)
    rw [Geometry.segFirst_succ] at hle ⊢
    exact (max_eq_right hle).symm

/-! ## Trims (R110, R126) -/

/-- Steps taken one by one are the steps of a fold. -/
theorem foldl_eq_of_steps {α β : Type} {step : α → β → α} {bs : List β} {u : Nat → α}
    (h : ∀ i b, bs[i]? = some b → u (i + 1) = step (u i) b) : bs.foldl step (u 0) = u bs.length := by
  induction bs generalizing u with
  | nil => rfl
  | cons b bs ih =>
    rw [List.foldl_cons, ← h 0 b rfl]
    exact ih (u := fun i => u (i + 1)) fun i b' hb => h (i + 1) b' hb

/-! ## A stopping pass ends (R142) -/

theorem JobState.ended_iff (j : JobState) : j.ended = true ↔ j = .complete ∨ j = .failed := by
  cases j <;> simp [JobState.ended]

theorem State.window_ended_iff (s : State) : (s.rbc.window.all fun j => j.state.ended) = true ↔
    ∀ j ∈ s.rbc.window, j.state = .complete ∨ j.state = .failed := by
  simp only [List.all_eq_true, JobState.ended_iff]

theorem State.endIfDrained_stopping {s : State} {cause : PassResult} (hs : s.rbc.state = .stopping)
    (hc : s.rbc.stopCause = some cause) :
    s.endIfDrained = if s.rbc.window.all fun j => j.state.ended then s.endPass cause else s := by
  simp only [State.endIfDrained, hs, hc]

/-- A pass that is not STOPPING, or whose jobs have not all ended, goes on. -/
theorem State.endIfDrained_undrained {s : State}
    (h : s.rbc.state ≠ .stopping ∨ (s.rbc.window.all fun j => j.state.ended) ≠ true) : s.endIfDrained = s := by
  unfold State.endIfDrained
  split
  · next hs hc => exact if_neg (h.resolve_left fun hn => hn hs)
  · rfl

/-- Settles O47: each unit of work by the lemma of the act that it runs. -/
theorem workUnits : Obligations.WorkUnits := by
  refine ⟨fun s t ts n => ⟨rfl, ?_, rfl, rfl⟩, fun s c i => ⟨fun tag ms next reissues o cmd outs sh h =>
    ⟨State.continueRead_done h, fun hn => ⟨_, State.continueRead_reissue h hn rfl, ?_, ?_⟩⟩, State.continueRead_empty⟩,
    fun s c cause => ⟨fun h => State.failChannel_none h cause, fun x p hm hp => State.failChannel_member hm hp cause⟩,
    fun s u tag r g cmd performed outs sh notes hr hg hop hfilled hkept => ⟨?_, ?_⟩,
    fun s k j g cmd performed outs sh hj hg => ⟨?_, ?_⟩, fun s o cmd ended hread hwrite => ⟨fun h => ?_,
      fun p c hp hc h => ⟨fun tag ho => ?_, fun k ho => ?_⟩⟩,
    fun s tag r g first count hr htag hg hb hk hfirst hcount => ⟨fun h => ?_, fun h => ?_⟩,
    fun s tag k c f => ⟨rfl, rfl, rfl, rfl, rfl, rfl, rfl, rfl, rfl, State.runArbiter_ready, State.runArbiter_other⟩,
    fun s u c i hu => ⟨fun h => ?_, fun h => ?_⟩, fun first flags runs hruns => ?_,
    fun s => ⟨fun cause hs hc hj => ?_, fun h => ?_⟩⟩
  · cases n <;> rfl
  · intro j x hj hx hxf
    exact skipTags_not_mem (Channel.length_tagsOut _) _ (hxf ▸ Channel.mem_tagsOut_cleared.2 ⟨j, x, hj, hx, rfl⟩)
  · intro hunused
    refine skipTags_unused fun hmem => ?_
    obtain ⟨j, x, hj, hx, ht⟩ := Channel.mem_tagsOut_cleared.1 hmem
    exact hunused j x hj hx ht
  · have hfrom : s.fillFrom (.segment tag) cmd performed outs sh = u := by
      cases performed with
      | none => exact (hkept rfl).symm
      | some c =>
        rw [hfilled c rfl]
        simp only [State.fillFrom, hop]
    obtain ⟨cbs, hu⟩ : ∃ cbs, u = { s with cbs := cbs } := by
      cases performed with
      | none => exact ⟨s.cbs, hkept rfl⟩
      | some c => exact hfilled c rfl ▸ State.fillAll_cases c _ _ _ _ _ _
    have hur : u.request tag = some r := by rw [hu]; exact hr
    have hug : u.geom = some g := by rw [hu]; exact hg
    exact (congrArg (State.segmentRead tag cmd outs) hfrom).trans (State.segmentRead_some hur hug cmd outs)
  · exact State.segmentWritten_some hr
  · exact State.jobRead_some hj hg cmd outs
  · exact State.jobWritten_some hj
  · refine (State.handCommand_ended h).trans (congrArg (fun t => State.later t s) ?_)
    cases hop : cmd.op with
    | read notes => rw [hread notes hop, endedFailed, hop]; rfl
    | write bs flags => rw [hwrite bs flags hop, endedFailed, hop]
  · subst ho
    exact State.handCommand_ready hp hc h
  · subst ho
    exact State.handCommand_ready hp hc h
  · rw [← Geometry.segFirst_eq_max hb] at hfirst
    refine (State.grantRequest_write hr hg hk).trans ((if_pos h).trans ?_)
    subst hfirst hcount htag
    rfl
  · exact (State.grantRequest_write hr hg hk).trans (if_neg h)
  · subst hu
    refine (State.runArbiter_ready ?_).trans rfl
    rw [State.channel_putChannel_same]
    exact h
  · subst hu
    refine State.runArbiter_other ?_
    rw [State.channel_putChannel_same]
    exact h
  · subst hruns
    obtain ⟨⟨hasc, hpos, hmem⟩, _⟩ := markedRuns_runs first flags
    exact ⟨hasc, hpos, hmem, fun s x u hu hstep => hu ▸ foldl_eq_of_steps hstep⟩
  · exact (State.endIfDrained_stopping hs hc).trans (if_pos (s.window_ended_iff.2 hj))
  · refine State.endIfDrained_undrained (h.imp_right fun ⟨j, hj, hne⟩ hall => ?_)
    exact (s.window_ended_iff.1 hall j hj).elim hne.1 hne.2

end Sys2Proof.Machine
end
